-- ==== Sys2Proof/Word.lean ====
section
/-! DEFINITION. The byte, the unit in which the FS318 receives its commands (spec 11, R200) and keeps its images. -/

namespace Sys2Proof

/-- One byte of a frame, of a profile image or of a registration slot. -/
abbrev Byte := BitVec 8

/-- A list of bytes read as one unsigned number, high byte first (section 11.6). -/
def bigEndian (bs : List Byte) : Nat := bs.foldl (fun n b => n * 256 + b.toNat) 0

/-- A 16-bit number read in two's complement (section 11.6). -/
def signed16 (n : Nat) : Int := if n < 32768 then n else (n : Int) - 65536

end Sys2Proof
end

