-- ==== Sys2Proof/Syntax.lean ====
section
/-! DEFINITION. The 79 rows of spec/opcode_table.json, one constructor each.
An event carries what arrives with it at the pins; a command carries the tag and the payload of the frame that brings it,
as bytes, so that its own meaning makes every length and range test (R201, R208). -/

namespace Sys2Proof

/-- Why a frame ends as a discard, the reasons of LINK_ERROR (R200, R201). -/
inductive DiscardReason where
  | length | crc | framing | gap | full
deriving DecidableEq, Repr

/-- The steps of the FS318: 39 events and the 40 commands of Table 11-1. -/
inductive Instr where
  /-- Power is applied (R206). -/
  | powerOn
  /-- A low level on RESET# (R205). -/
  | resetLine
  /-- The stored profile image has been read and checked (R206). -/
  | profileCheckDone
  /-- The start-up log scan has been completed (R188). -/
  | logScanDone
  /-- The start-up registration scan has been completed (R189). -/
  | regScanDone
  /-- The sample period elapses; `reading` is the raw a_x, a_y, a_z of a new reading, none when the sensor gives none (R10). -/
  | samplePeriod (reading : Option (Int × Int × Int))
  /-- Three sample periods without a plausible arrival (R14). -/
  | staleTimerExpiry
  /-- 250 ms without a plausible arrival (R15). -/
  | lostTimerExpiry
  /-- The recovery timer has run for RECOVER_TIME (R34). -/
  | recoveryExpiry
  /-- ENC_A or ENC_B changes; `a` and `b` are the new levels (R46). -/
  | encoderTransition (a b : Bool)
  /-- The 10 ms speed recording (R49). -/
  | speedRecord
  /-- A falling edge on POST# (R53). -/
  | postCapture
  /-- A falling edge on FEELER# (R58). -/
  | feelerCapture
  /-- ARM_EXT# changes; `asserted` is its new level (R122). -/
  | armExt (asserted : Bool)
  /-- ARM_RET# changes; `asserted` is its new level (R122). -/
  | armRet (asserted : Bool)
  /-- The ARM_TIME deadline of an arm move expires (R123). -/
  | armDeadlineExpiry
  /-- A simulated arm move completes (R129). -/
  | simArmMoveDone
  /-- HEAD_INPOS# changes; `asserted` is its new level (R136). -/
  | headInpos (asserted : Bool)
  /-- The HEAD_TIME deadline of a head move expires (R136). -/
  | headDeadlineExpiry
  /-- A simulated head move completes (R151). -/
  | simHeadMoveDone
  /-- The DELAY or DWELL timer of a run step expires (R141). -/
  | phaseTimerExpiry
  /-- The STEP_WAIT of a DEFERRED step expires (R142). -/
  | stepWaitExpiry
  /-- A rising edge on FLOW (R160). -/
  | flowPulse
  /-- The store arbiter begins the oldest waiting request that can begin (R175). -/
  | storeOperationBegin
  /-- A record write that was waiting for room begins (R177). -/
  | recordWriteBegin
  /-- A record write attempt is read back; `ok` says whether it matches (R178, R179). -/
  | recordWriteAttemptDone (ok : Bool)
  /-- A part of a registration program is read back; `ok` says whether it matches (R186). -/
  | regProgramPartDone (ok : Bool)
  /-- A profile write is read back; `ok` says whether it matches (R207). -/
  | profileWriteComplete (ok : Bool)
  /-- The silence timer reaches HOST_SILENCE (R203). -/
  | silenceExpiry
  /-- The time-of-day counter's second (R204). -/
  | secondsTick
  /-- KEY changes; `service` is high, SERVICE (R85). -/
  | keyChange (service : Bool)
  /-- A frame completes with a matching CRC (R200, R201). -/
  | validFrame (kind tag : Byte) (payload : List Byte)
  /-- A frame in progress ends as a discard at the byte `last` (R200). -/
  | frameDiscard (reason : DiscardReason) (last : Byte)
  /-- More than 2 ms pass between two bytes of a frame (R200). -/
  | frameGapTimeout
  /-- The transmission of a frame completes (R202). -/
  | frameSent
  /-- A taken frame whose KIND is no command kind (R201). -/
  | unknownKind (kind tag : Byte) (payload : List Byte)
  /-- STATUS (R204). -/
  | status (tag : Byte) (payload : List Byte)
  /-- RESET (R205). -/
  | reset (tag : Byte) (payload : List Byte)
  /-- PARK (R106). -/
  | park (tag : Byte) (payload : List Byte)
  /-- WAKE (R107). -/
  | wake (tag : Byte) (payload : List Byte)
  /-- SET_TIME (R204). -/
  | setTime (tag : Byte) (payload : List Byte)
  /-- ACK_CONDITIONS (R193). -/
  | ackConditions (tag : Byte) (payload : List Byte)
  /-- SET_CONDITION_CLASS (R194). -/
  | setConditionClass (tag : Byte) (payload : List Byte)
  /-- PROFILE_WRITE (R207). -/
  | profileWrite (tag : Byte) (payload : List Byte)
  /-- PROFILE_READ (R207). -/
  | profileRead (tag : Byte) (payload : List Byte)
  /-- STAB_READ (R42). -/
  | stabRead (tag : Byte) (payload : List Byte)
  /-- SET_PAYLOAD (R43). -/
  | setPayload (tag : Byte) (payload : List Byte)
  /-- CLEAR_LATCH (R36). -/
  | clearLatch (tag : Byte) (payload : List Byte)
  /-- FILL (R164). -/
  | fill (tag : Byte) (payload : List Byte)
  /-- TANK_READ (R172). -/
  | tankRead (tag : Byte) (payload : List Byte)
  /-- MAP_CLEAR (R71). -/
  | mapClear (tag : Byte) (payload : List Byte)
  /-- LOAD_BAYS (R68). -/
  | loadBays (tag : Byte) (payload : List Byte)
  /-- MAP_READ (R72). -/
  | mapRead (tag : Byte) (payload : List Byte)
  /-- SET_BAY_PERMIT (R82). -/
  | setBayPermit (tag : Byte) (payload : List Byte)
  /-- SET_BAY_PROTECT (R83). -/
  | setBayProtect (tag : Byte) (payload : List Byte)
  /-- CONFIRM_BAY (R78). -/
  | confirmBay (tag : Byte) (payload : List Byte)
  /-- MAP_LOCK (R84). -/
  | mapLock (tag : Byte) (payload : List Byte)
  /-- MAP_UNLOCK (R85). -/
  | mapUnlock (tag : Byte) (payload : List Byte)
  /-- PASS_OPEN (R93). -/
  | passOpen (tag : Byte) (payload : List Byte)
  /-- PASS_HOLD (R97). -/
  | passHold (tag : Byte) (payload : List Byte)
  /-- PASS_RESUME (R100, R101). -/
  | passResume (tag : Byte) (payload : List Byte)
  /-- PASS_CLOSE (R104). -/
  | passClose (tag : Byte) (payload : List Byte)
  /-- TOOL_SET (R102, R103). -/
  | toolSet (tag : Byte) (payload : List Byte)
  /-- PASS_READ (R108). -/
  | passRead (tag : Byte) (payload : List Byte)
  /-- WEEDER_RECOVER (R124). -/
  | weederRecover (tag : Byte) (payload : List Byte)
  /-- WEEDER_READ (R130). -/
  | weederRead (tag : Byte) (payload : List Byte)
  /-- PRUNE_PROGRAM (R133). -/
  | pruneProgram (tag : Byte) (payload : List Byte)
  /-- PRUNE_ARM (R134). -/
  | pruneArm (tag : Byte) (payload : List Byte)
  /-- PRUNE_HALT (R146). -/
  | pruneHalt (tag : Byte) (payload : List Byte)
  /-- PRUNE_READ (R152). -/
  | pruneRead (tag : Byte) (payload : List Byte)
  /-- TRUNK_READ (R63). -/
  | trunkRead (tag : Byte) (payload : List Byte)
  /-- LOG_STATUS (R181). -/
  | logStatus (tag : Byte) (payload : List Byte)
  /-- LOG_READ (R182). -/
  | logRead (tag : Byte) (payload : List Byte)
  /-- LOG_RELEASE; `markOk` says whether the mark cell's readback matches (R183). -/
  | logRelease (tag : Byte) (payload : List Byte) (markOk : Bool)
  /-- REG_PROGRAM (R185). -/
  | regProgram (tag : Byte) (payload : List Byte)
  /-- REG_READ (R187). -/
  | regRead (tag : Byte) (payload : List Byte)
  /-- The supply is lost (R175). -/
  | powerLoss
  /-- A byte arrives on HRXD (R200). -/
  | byteReceived (b : Byte)
  /-- A new 1 ms period of the CEIL pulse train begins (R41). -/
  | ceilPeriodStart
deriving DecidableEq, Repr

end Sys2Proof
end

