-- ==== Sys2Proof/Decode.lean ====
section
/-! DEFINITION. The decoder over the rows of the table that give bits. The table gives none of its 79 rows any bits (the
commands are frames of 11, Table 11-8, which the link receives byte by byte), so no word spells a row. -/

/-- The command a word spells by the table's bits: none for every word, since no row has bits. -/
def Sys2Proof.decodeTableWord (_nbits _w : Nat) : Option Sys2Proof.Instr := none
end

