-- ==== Sys2Proof/Machine/Types.lean ====
section
/-! DEFINITION. The names and records that spec 00 to 11 give the FS318: modes, bands, tools, load items, bays, trunk
records, pass records, flags and their details. Each type's docstring names the table or rule it follows. -/

namespace Sys2Proof.Machine

/-- Device modes (Table 0-5). -/
inductive Mode where
  | startup | idle | pass | parked | lockout
deriving DecidableEq, Repr

/-- Bands of the Stability Unit (R28). -/
inductive Band where
  | normal | caution | tripped | latched
deriving DecidableEq, Repr

/-- The band is TRIPPED or LATCHED. -/
def Band.stops : Band → Bool
  | .normal => false
  | .caution => false
  | .tripped => true
  | .latched => true

/-- The three tools (R208). -/
inductive Tool where
  | weeder | pruner | spray
deriving DecidableEq, Repr

/-- A set of tools. -/
structure ToolSet where
  weeder : Bool
  pruner : Bool
  spray : Bool
deriving DecidableEq, Repr

def ToolSet.has (t : ToolSet) : Tool → Bool
  | .weeder => t.weeder
  | .pruner => t.pruner
  | .spray => t.spray

def ToolSet.set (t : ToolSet) (k : Tool) (v : Bool) : ToolSet :=
  match k with
  | .weeder => { t with weeder := v }
  | .pruner => { t with pruner := v }
  | .spray => { t with spray := v }

def ToolSet.empty : ToolSet := ⟨false, false, false⟩

/-- One value for each spray section, L1 to R3 (Table 4-1). -/
structure Six (α : Type) where
  l1 : α
  l2 : α
  l3 : α
  r1 : α
  r2 : α
  r3 : α
deriving DecidableEq, Repr

/-- A set of sections: one mark per section. -/
abbrev Sections := Six Bool

def Six.all {α : Type} (a : α) : Six α := ⟨a, a, a, a, a, a⟩

def Six.map {α β : Type} (f : α → β) (s : Six α) : Six β := ⟨f s.l1, f s.l2, f s.l3, f s.r1, f s.r2, f s.r3⟩

def Six.zip {α β γ : Type} (f : α → β → γ) (s : Six α) (t : Six β) : Six γ :=
  ⟨f s.l1 t.l1, f s.l2 t.l2, f s.l3 t.l3, f s.r1 t.r1, f s.r2 t.r2, f s.r3 t.r3⟩

def Six.any (s : Sections) : Bool := s.l1 || s.l2 || s.l3 || s.r1 || s.r2 || s.r3

/-! ### Stability Unit (spec 01, 02) -/

/-- A load item (Table 1-1). -/
structure LoadItem where
  m : Int
  x : Int
  y : Int
  h : Int
deriving DecidableEq, Repr

/-- The load table: always five items (R1). -/
structure LoadTable where
  chassis : LoadItem
  tank : LoadItem
  weeder : LoadItem
  head : LoadItem
  payload : LoadItem
deriving DecidableEq, Repr

/-- Accelerometer axes, in mg. -/
structure Axes where
  x : Int
  y : Int
  z : Int
deriving DecidableEq, Repr

/-- A trimmed sample with its clipped mark (R11). -/
structure Sample where
  a : Axes
  clipped : Bool
deriving DecidableEq, Repr

/-- The four trimmed samples, oldest first (R12). -/
structure Ring4 where
  s0 : Sample
  s1 : Sample
  s2 : Sample
  s3 : Sample
deriving DecidableEq, Repr

inductive Axis where
  | lateral | longitudinal
deriving DecidableEq, Repr

inductive Side where
  | left | right | front | rear
deriving DecidableEq, Repr

/-- The stages that clipped a result (Table 1-5). -/
structure Stages where
  sample : Bool
  offsetX : Bool
  offsetY : Bool
  lateral : Bool
  longitudinal : Bool
deriving DecidableEq, Repr

def Stages.any (c : Stages) : Bool := c.sample || c.offsetX || c.offsetY || c.lateral || c.longitudinal

/-- What started a computation (Table 1-5). -/
inductive Cause where
  | arrival | load
deriving DecidableEq, Repr

/-- State of the sample path (Table 1-5). -/
inductive SampleState where
  | fresh | stale | lost
deriving DecidableEq, Repr

/-- Composite mass and centre of mass (R8). -/
structure Composite where
  m : Int
  x : Int
  y : Int
  h : Int
deriving DecidableEq, Repr

/-- The margin that follows from a composite and averages (R17 to R21). -/
structure Margin where
  dx : Int
  dy : Int
  l : Int
  g : Int
  s : Int
  axis : Axis
  side : Side
  clipped : Stages
  sEff : Int
deriving DecidableEq, Repr

/-- The published result (Table 1-5). -/
structure Published where
  margin : Margin
  composite : Composite
  a : Axes
  cause : Cause
  sampleState : SampleState
  c : Nat
deriving DecidableEq, Repr

/-- Cause of a trip (R28). -/
inductive TripCause where
  | stability | sensorLost | sensor
deriving DecidableEq, Repr

/-- The trip record (R28). -/
structure TripRecord where
  cause : TripCause
  s : Int
  sEff : Int
  axis : Axis
  side : Side
  clipped : Stages
  sampleState : SampleState
  latched : Bool
deriving DecidableEq, Repr

/-- Status of an admission record (R23). -/
inductive AdmStatus where
  | waiting | granted
deriving DecidableEq, Repr

/-- A head coordinate pair: height and reach, in mm (R5). -/
structure Pair where
  height : Int
  reach : Int
deriving DecidableEq, Repr

/-- The larger of two pairs, coordinate by coordinate (R5). -/
def Pair.max (p q : Pair) : Pair := ⟨Max.max p.height q.height, Max.max p.reach q.reach⟩

/-- The rest posture (R137). -/
def Pair.rest : Pair := ⟨0, 0⟩

/-- The Pruner Sequencer's admission record: the height and reach requested, the posture evaluated for them, its status (R23). -/
structure PrunerAdmission where
  requested : Pair
  evaluated : Pair
  status : AdmStatus
deriving DecidableEq, Repr

inductive Requester where
  | weeder | pruner
deriving DecidableEq, Repr

/-- STU's answer to an admission request, or a later word on it (R24 to R26). -/
inductive Answer where
  | admitted | refused
deriving DecidableEq, Repr

/-! ### Odometry Unit and Trunk Tracker (spec 03) -/

inductive Direction where
  | forward | reverse
deriving DecidableEq, Repr

inductive PostResult where
  | corrected | mismatch | noBay | repeated
deriving DecidableEq, Repr

/-- The last post record (R56). -/
structure PostRecord where
  rpc : Nat
  q : Nat
  b : Option Nat
  correction : Int
  result : PostResult
deriving DecidableEq, Repr

/-- Outcomes of a pruner run (Table 3-2, Table 7-4). -/
inductive Outcome where
  | pruned | missed | abandoned | blocked | skipped
deriving DecidableEq, Repr

/-- A trunk record (Table 3-2). -/
structure Trunk where
  number : Nat
  pos : Nat
  bay : Option Nat
  weederClaim : Bool
  prunerClaim : Bool
  outcome : Option Outcome
deriving DecidableEq, Repr

/-! ### Map Unit (spec 04) -/

/-- Permit codes (Table 4-2). -/
inductive Permit where
  | barred | passive | confirm | opened
deriving DecidableEq, Repr

/-- The value of a permit code (Table 4-2). -/
def Permit.code : Permit → Nat
  | .barred => 0
  | .passive => 1
  | .confirm => 2
  | .opened => 3

def Permit.ofCode : Nat → Option Permit
  | 0 => some .barred
  | 1 => some .passive
  | 2 => some .confirm
  | 3 => some .opened
  | _ => none

/-- A bay record (Table 4-1). -/
structure Bay where
  index : Nat
  start : Nat
  length : Nat
  weeder : Permit
  pruner : Permit
  spray : Permit
  mask : Sections
  protect : Bool
  confirmed : ToolSet
  visited : ToolSet
deriving DecidableEq, Repr

def Bay.stop (b : Bay) : Nat := b.start + b.length

def Bay.covers (b : Bay) (p : Nat) : Bool := b.start ≤ p && p < b.stop

def Bay.permit (b : Bay) : Tool → Permit
  | .weeder => b.weeder
  | .pruner => b.pruner
  | .spray => b.spray

def Bay.setPermit (b : Bay) (t : Tool) (p : Permit) : Bay :=
  match t with
  | .weeder => { b with weeder := p }
  | .pruner => { b with pruner := p }
  | .spray => { b with spray := p }

/-- What a cursor is resolved to (R73): a bay by its index, MISS, or NONE outside a pass. -/
inductive Resolution where
  | bay (index : Nat) | miss | none
deriving DecidableEq, Repr

/-- Effective permission (R76). -/
inductive Permission where
  | opened | passive | awaitConfirm
deriving DecidableEq, Repr

/-- A cursor: its map position (held outside a pass), resolution, request mark and miss stretch (R73, R75, R77). -/
structure Cursor where
  pos : Option Nat
  res : Resolution
  requestMark : Bool
  missStretch : Bool
deriving DecidableEq, Repr

/-- The four cursors (R73). -/
inductive CursorName where
  | reference | tool (t : Tool)
deriving DecidableEq, Repr

/-- Lock states (Table 4-4). -/
inductive LockState where
  | unlocked | soft | hard
deriving DecidableEq, Repr

/-! ### Pass Controller (spec 05) -/

/-- Suspension causes (Table 5-3). -/
inductive Suspension where
  | trip | reverse | barred | hostSilence | host | logHalt
deriving DecidableEq, Repr

/-- The four spray fields of a pass (R91). -/
structure SprayFields where
  product : Nat
  rate : Nat
  spacing : Nat
  sections : Sections
deriving DecidableEq, Repr

/-- The pass record (Table 5-3); the pass is SUSPENDED exactly while `suspension` is present. -/
structure PassRecord where
  row : Nat
  passId : Nat
  start : Nat
  tools : ToolSet
  rehearsal : Nat
  spray : Option SprayFields
  suspension : Option Suspension
  suspendedAt : Option Nat
  suspensions : Nat
deriving DecidableEq, Repr

inductive EndReason where
  | closed | lockout
deriving DecidableEq, Repr

/-- The last pass record with its end reason (R90). -/
structure LastPass where
  pass : PassRecord
  reason : EndReason
deriving DecidableEq, Repr

/-! ### Weeder Sequencer (spec 06) -/

/-- Arm states (Table 6-4). -/
inductive ArmState where
  | retracted | extending | extended | retracting | stalled
deriving DecidableEq, Repr

/-- Kind of a positional action (Table 6-2). -/
inductive ActionKind where
  | retract | extend
deriving DecidableEq, Repr

/-- A positional entry of the action queue (Table 6-2); IMMEDIATE entries fire within their event and are not stored. -/
structure Action where
  kind : ActionKind
  trigger : Int
  trunk : Nat
  deferred : Bool
deriving DecidableEq, Repr

inductive Intent where
  | armIn | armOut
deriving DecidableEq, Repr

/-- The six terms of the drive condition that fail (R117). -/
structure DriveTerms where
  intent : Bool
  permission : Bool
  running : Bool
  selected : Bool
  hold : Bool
  cleared : Bool
deriving DecidableEq, Repr

/-! ### Pruner Sequencer (spec 07) -/

/-- A cutter set C1 to C4 (Table 7-2). -/
structure Cutters where
  c1 : Bool
  c2 : Bool
  c3 : Bool
  c4 : Bool
deriving DecidableEq, Repr

def Cutters.off : Cutters := ⟨false, false, false, false⟩

/-- A cane program step (Table 7-2); delay and dwell in units of 10 ms. -/
structure Step where
  target : Pair
  cutters : Cutters
  delay : Nat
  dwell : Nat
  last : Bool
deriving DecidableEq, Repr

inductive ProgramMode where
  | once | each
deriving DecidableEq, Repr

/-- The cane program and its mode (R132). -/
structure Program where
  mode : ProgramMode
  steps : List Step
deriving DecidableEq, Repr

/-- Head states (Table 7-3). -/
inductive HeadState where
  | atTarget | moving | unplaced
deriving DecidableEq, Repr

/-- A head: state, pairs, settled mark and the deadline of its move (R135, R151). -/
structure Head where
  state : HeadState
  issued : Pair
  confirmed : Pair
  settled : Bool
  deadline : Option Nat
deriving DecidableEq, Repr

/-- Phases of a run step (R141). -/
inductive Phase where
  | delay | move | dwell
deriving DecidableEq, Repr

/-- The run context (R141); `timer` and `stepWait` hold the time at which they expire; BLOCKING and HALTING are the ending
marks, BLOCKING taking the place of HALTING in the outcome (R144). -/
structure Run where
  trunk : Nat
  step : Nat
  phase : Phase
  timer : Option Nat
  deferred : Bool
  stepWait : Option Nat
  blocking : Bool
  halting : Bool
  suspended : Bool
deriving DecidableEq, Repr

/-- The candidate that has put its act query, and whether it waits for confirmation (R139). -/
structure Candidate where
  trunk : Nat
  waiting : Bool
deriving DecidableEq, Repr

/-- Outcome counts of the pass (R140), with the number of lost trunks within the missed count (R152). -/
structure Counts where
  pruned : Nat
  missed : Nat
  abandoned : Nat
  blocked : Nat
  skipped : Nat
  lost : Nat
deriving DecidableEq, Repr

/-! ### Spray Gate (spec 08) -/

/-- Closed reasons in order of test (Table 8-2). -/
inductive ClosedReason where
  | notRunning | notSelected | notInMask | permission | speed | band | tank | logHalt | reservation
deriving DecidableEq, Repr

/-- A section's state (R154). -/
inductive Section where
  | opened
  | closed (reason : ClosedReason)
deriving DecidableEq, Repr

/-- Flags of a spray record (R166). -/
structure RecordFlags where
  interrupted : Bool
  partialMark : Bool
  rehearsal : Bool
  mapMiss : Bool
  confirmed : Bool
  tankEmpty : Bool
  rateDeviation : Bool
deriving DecidableEq, Repr

/-- The open record with its marks (R165, Table 8-3). -/
structure OpenRecord where
  bay : Option Nat
  entry : Nat
  opened : Sections
  volOpen : Nat
  volClosed : Nat
  openLength : Nat
  flags : RecordFlags
  roomWait : Bool
  leak : Bool
deriving DecidableEq, Repr

/-- A staged or written spray record (Table 8-3). -/
structure SprayRecord where
  seq : Nat
  bay : Option Nat
  entry : Nat
  exit : Nat
  opened : Sections
  flags : RecordFlags
  volOpen : Nat
  volClosed : Nat
  openLength : Nat
  row : Nat
  passId : Nat
  product : Nat
  slot : Nat
  time : Option Nat
  rate : Option Nat
deriving DecidableEq, Repr

/-- The tank: a quantity in mL with its density in g/L (R163). -/
structure Tank where
  quantity : Nat
  density : Nat
deriving DecidableEq, Repr

/-! ### Log Store (spec 09) -/

/-- What a slot of the log ring holds when it has been written (R188): a valid record, a valid bad mark, or content that
fails every check. -/
inductive SlotContent where
  | record (r : SprayRecord)
  | badMark
  | garbage
deriving DecidableEq, Repr

/-- The log ring as its written slots, slots strictly rising; an unlisted slot has never been written (R176). -/
abbrev LogRing := List (Nat × SlotContent)

/-- The commit mark of a registration slot as a scan reads it (R186, R189). -/
inductive CommitMark where
  | absent | valid | invalid
deriving DecidableEq, Repr

/-- A registration slot in the store: begin mark, 32 bytes, commit mark (R186). -/
structure RegCell where
  begun : Bool
  bytes : List Byte
  commit : CommitMark
deriving DecidableEq, Repr

/-- The stored profile image as PROFILE_CHECK reads it (R206, R207). -/
inductive StoredImage where
  | none
  | whole (bytes : List Byte) (crc : Nat)
  | broken
deriving DecidableEq, Repr

/-- States of a registration slot (R184). -/
inductive RegState where
  | blank | programming | programmed | damaged
deriving DecidableEq, Repr

/-- Parts of a registration program (R186). -/
inductive RegPart where
  | beginMark | image | commitMark
deriving DecidableEq, Repr

/-- The operation in progress at the store arbiter (R174); a record write waits for room between attempts when
`waitsRoom`; `cut` marks an operation completing after the RESET# line (R175). -/
inductive StoreOp where
  | record (r : SprayRecord) (attempt : Nat) (waitsRoom cut : Bool)
  | reg (slot : Nat) (image : List Byte) (part : RegPart) (cut : Bool)
  | profile (image : List Byte) (crc : Nat) (cut : Bool)
deriving DecidableEq, Repr

/-- Waiting requests of the store arbiter (R174). -/
inductive Request where
  | record
  | reg (slot : Nat) (image : List Byte)
  | profile (image : List Byte) (crc : Nat)
deriving DecidableEq, Repr

inductive OpKind where
  | record | reg | profile
deriving DecidableEq, Repr

/-- The last store result: kind, slot concerned, DONE or FAILED (R174). -/
structure StoreResult where
  kind : OpKind
  slot : Option Nat
  done : Bool
deriving DecidableEq, Repr

/-! ### Condition Unit (spec 10) -/

/-- Causes of FAULT_MAJOR (Table 10-2). -/
inductive MajorCause where
  | sensor | weeder | pruner | log
deriving DecidableEq, Repr

/-- A set of causes. -/
structure CauseSet where
  sensor : Bool
  weeder : Bool
  pruner : Bool
  log : Bool
deriving DecidableEq, Repr

def CauseSet.empty : CauseSet := ⟨false, false, false, false⟩

def CauseSet.add (s : CauseSet) : MajorCause → CauseSet
  | .sensor => { s with sensor := true }
  | .weeder => { s with weeder := true }
  | .pruner => { s with pruner := true }
  | .log => { s with log := true }

/-- Classes of a flag (R191). -/
inductive FlagClass where
  | off | routine | urgent
deriving DecidableEq, Repr

/-- The 25 flags of Table 10-1, in its order. -/
inductive Flag where
  | caution | trip | latch | clip | sensorStale | sensorLost | mapMiss | confirmRequest | barredStop | postMismatch
  | reverseStop | trunkOverflow | weederQueueFull | armTimeout | headTimeout | trunkMissed | tankEmpty | sprayLeak
  | logNearFull | logFull | logRetry | regDamaged | faultMajor | hostSilence | linkError
deriving DecidableEq, Repr

/-- The detail of an occurrence of a minor fault (Table 10-1). -/
inductive MinorDetail where
  | stale (rate : Int) (implausible : Bool)
  | arm (stalledFrom : ArmState) (rpc : Nat) (armTime : Int)
  | head (abandoned confirmed : Pair) (rpc : Nat)
  | logRetry (slot seq badCount : Nat)
deriving DecidableEq, Repr

/-- What a FAULT_MAJOR occurrence comes from (R196). -/
inductive MajorOrigin where
  | repeated (d : MinorDetail)
  | badCount (n : Nat)
deriving DecidableEq, Repr

/-- Details of occurrences (Table 10-1). -/
inductive Detail where
  | caution (sEff : Int) (axis : Axis) (side : Side)
  | trip (r : TripRecord)
  | clip (stages : Stages) (s : Int)
  | minor (d : MinorDetail)
  | sensorLost (since : Nat)
  | mapMiss (tool : Tool) (pos : Nat)
  | confirmRequest (bay : Nat) (tool : Tool) (pos : Nat)
  | barredStop (bay : Nat) (tools : ToolSet) (rpc : Nat)
  | postMismatch (rpc q b distance : Nat)
  | reverseStop (rpc furthest : Nat) (limit : Int)
  | trunkOverflow (number pos : Nat)
  | queueFull (trunk : Option Nat) (entries : Nat)
  | trunkMissed (number pos : Nat) (latest : Int) (rpc missed : Nat)
  | trunkLost (number pos : Nat)
  | tankEmpty (bay : Option Nat) (rpc overrun : Nat)
  | sprayLeak (bay : Option Nat) (volClosed : Nat) (sections : Sections)
  | logNearFull (free usable unreleased : Nat)
  | logFull (bay : Option Nat) (staged unreleased usable : Nat)
  | regPart (slot : Nat) (part : RegPart)
  | regSet (slots : List Nat)
  | major (cause : MajorCause) (origin : MajorOrigin) (mode : Mode) (causes : CauseSet)
  | hostSilence (mode : Mode) (since : Nat)
  | linkError (reason : DiscardReason) (count : Nat)
deriving DecidableEq, Repr

/-- One flag: present detail means SET (R191). -/
structure FlagState where
  detail : Option Detail
  cls : FlagClass
deriving DecidableEq, Repr

def FlagState.isSet (f : FlagState) : Bool := f.detail.isSome

/-- The 25 flags, one field each (Table 10-1). -/
structure Flags where
  caution : FlagState
  trip : FlagState
  latch : FlagState
  clip : FlagState
  sensorStale : FlagState
  sensorLost : FlagState
  mapMiss : FlagState
  confirmRequest : FlagState
  barredStop : FlagState
  postMismatch : FlagState
  reverseStop : FlagState
  trunkOverflow : FlagState
  weederQueueFull : FlagState
  armTimeout : FlagState
  headTimeout : FlagState
  trunkMissed : FlagState
  tankEmpty : FlagState
  sprayLeak : FlagState
  logNearFull : FlagState
  logFull : FlagState
  logRetry : FlagState
  regDamaged : FlagState
  faultMajor : FlagState
  hostSilence : FlagState
  linkError : FlagState
deriving DecidableEq, Repr

/-! ### Message Link (spec 11) -/

/-- Refusal reasons (Table 11-2). -/
inductive Reason where
  | badLength | unknownKind | wrongMode | busy | parked | outOfRange | locked | keyRequired | full | overlap | notFound
  | noProfile | noTank | noRegistration | noProgram | band | barredAhead
deriving DecidableEq, Repr

/-- A valid frame in the receive buffer (R201). -/
structure Frame where
  kind : Byte
  tag : Byte
  payload : List Byte
deriving DecidableEq, Repr

/-- The receiver: hunting, or in a frame with the bytes since its SYNC (R200). -/
inductive Receiver where
  | hunting
  | inFrame (bytes : List Byte)
deriving DecidableEq, Repr

/-- Phases of STARTUP (R206). -/
inductive StartPhase where
  | profileCheck | logScan | regScan | sampleWait
deriving DecidableEq, Repr

/-- The profile in force: the 55 values of the image, in image order (R207, Tables 1-4, 2-1, 3-1, 6-1, 7-1, 8-1, 9-1,
11-3). SAMPLE_RATE is in Hz, CLIP_STRICT 0 or 1. -/
structure Profile where
  chassisM : Int
  chassisX : Int
  chassisY : Int
  chassisH : Int
  tankFullM : Int
  tankX : Int
  tankY : Int
  tankH : Int
  weederM : Int
  weederRX : Int
  weederRY : Int
  weederRH : Int
  weederEX : Int
  weederEY : Int
  weederEH : Int
  headM : Int
  headBX : Int
  headBY : Int
  headBH : Int
  halfTrack : Int
  tipFront : Int
  tipRear : Int
  trimX : Int
  trimY : Int
  trimZ : Int
  sampleRate : Int
  clipStrict : Int
  sTrip : Int
  sAdmit : Int
  sFull : Int
  vMax : Int
  sCaution : Int
  hyst : Int
  recoverTime : Int
  prescale : Int
  reverseLimit : Int
  postWindow : Int
  postStep : Int
  trunkSpacing : Int
  bladeLag : Int
  pruneLag : Int
  sprayLag : Int
  clearBefore : Int
  clearAfter : Int
  armTime : Int
  pruneLead : Int
  pruneLate : Int
  headTime : Int
  stepWait : Int
  flowK : Int
  sprayMinSpeed : Int
  leakLimit : Int
  rateTol : Int
  logNear : Int
  hostSilence : Int
deriving DecidableEq, Repr
end Sys2Proof.Machine
end

