-- ==== Sys2Proof/Machine/Reply.lean ====
section
/-! DEFINITION. What each OK reply carries, item by item in the order its rule lists them, and the frames that wait in
the transmit queue (R202). -/

namespace Sys2Proof.Machine

/-- The terms of the drive permit that fail (R40). -/
structure PermitTerms where
  mode : Bool
  band : Bool
  silence : Bool
deriving DecidableEq, Repr

/-- The result of STATUS (R204). -/
structure StatusReply where
  mode : Mode
  phase : Option StartPhase
  noProfile : Bool
  profileWrite : Bool
  band : Band
  sEff : Option Int
  c : Nat
  driveEn : Bool
  running : Option Bool
  lock : LockState
  storeBusy : Bool
  lastResult : Option StoreResult
  halted : Bool
  flags : Flags
  alert : Bool
  time : Option Nat
  silenceExpired : Bool
  lostNotices : Nat
deriving DecidableEq, Repr

/-- The result of STAB_READ (R42). -/
structure StabReply where
  published : Option Published
  band : Band
  trip : Option TripRecord
  recovery : Option Nat
  load : LoadTable
  weeder : Option AdmStatus
  pruner : Option PrunerAdmission
  driveEn : Bool
  failing : PermitTerms
  duty : Nat
deriving DecidableEq, Repr

/-- The result of TANK_READ (R172). -/
structure TankReply where
  tank : Option Tank
  overrun : Nat
  accumulator : Nat
  pendingVolume : Nat
  flowK : Int
  sections : Six Section
  driven : Sections
  reserved : Bool
  roomWait : Bool
  speed : Int
  permission : Option Permission
  openRec : Option OpenRecord
deriving DecidableEq, Repr

/-- One cursor as MAP_READ gives it (R72). -/
structure CursorReply where
  pos : Option Nat
  res : Resolution
  permission : Option Permission
  requestMark : Bool
deriving DecidableEq, Repr

/-- The result of MAP_READ (R72). -/
structure MapReply where
  count : Nat
  mapLock : Bool
  service : Bool
  lock : LockState
  reference : CursorReply
  weeder : CursorReply
  pruner : CursorReply
  spray : CursorReply
  bays : List Bay
deriving DecidableEq, Repr

/-- The result of PASS_READ (R108). -/
structure PassReply where
  mode : Mode
  pass : Option PassRecord
  lastPass : Option LastPass
  selected : ToolSet
  withheld : ToolSet
  driveEn : Bool
  failing : PermitTerms
  rpc : Nat
  offset : Int
deriving DecidableEq, Repr

/-- The result of WEEDER_READ (R130). -/
structure WeederReply where
  arm : Option ArmState
  simArm : Option ArmState
  timeLeft : Option Nat
  armExt : Bool
  armRet : Bool
  armOut : Bool
  armIn : Bool
  blade : Bool
  bladeCommanded : Bool
  intent : Intent
  clearedTo : Option Int
  holdOverflow : Bool
  holdQueue : Bool
  stall : Bool
  fault : Bool
  admission : Option AdmStatus
  permission : Option Permission
  failing : DriveTerms
  queue : List Action
deriving DecidableEq, Repr

/-- The candidate as PRUNE_READ gives it (R152). -/
structure CandidateReply where
  trunk : Nat
  opening : Int
  latest : Int
  waiting : Bool
deriving DecidableEq, Repr

/-- The result of PRUNE_READ (R152). -/
structure PruneReply where
  program : Option Program
  armed : Bool
  fault : Bool
  head : Head
  timeLeft : Option Nat
  inPosition : Bool
  simHead : Option Head
  cutters : Cutters
  cuttersCommanded : Cutters
  run : Option Run
  admission : Option AdmStatus
  stepWaitLeft : Option Nat
  candidate : Option CandidateReply
  permission : Option Permission
  counts : Counts
deriving DecidableEq, Repr

/-- The result of TRUNK_READ (R63). -/
structure TrunkReply where
  rpc : Nat
  prescaler : Int
  direction : Direction
  speed : Int
  furthest : Nat
  offset : Int
  lastPost : Option PostRecord
  postRef : Option Nat
  count : Nat
  counter : Nat
  spacing : Option Nat
  overflowed : Bool
  trunks : List Trunk
deriving DecidableEq, Repr

/-- An operation of the store arbiter's list: its kind, and whether it is a record write that waits for room (R177, R181,
log 50). -/
structure WaitingReply where
  kind : OpKind
  waitsRoom : Bool
deriving DecidableEq, Repr

/-- The result of LOG_STATUS (R181). -/
structure LogReply where
  oldest : Option Nat
  newest : Nat
  next : Nat
  staged : List Nat
  usable : Nat
  unreleased : Nat
  free : Nat
  badCount : Nat
  badSet : List Nat
  halted : Bool
  reserved : Bool
  op : Option StoreOp
  waiting : List WaitingReply
  lastResult : Option StoreResult
deriving DecidableEq, Repr

/-- The results of the OK replies, one for each command of Table 11-1. -/
inductive OkResult where
  | status (r : StatusReply)
  | reset (mode : Mode) (band : Band) (driveEn : Bool)
  | park (mode : Mode)
  | wake (mode : Mode) (band : Band) (driveEn : Bool) (sEff : Option Int)
  | setTime (seconds : Nat)
  | ack (stillSet : List Flag) (alert : Bool)
  | setClass (flag : Flag) (cls : FlagClass) (isSet : Bool)
  | profileWrite (crc : Nat)
  | profileRead (stored noProfile writing : Bool) (values : List Int)
  | stabRead (r : StabReply)
  | setPayload (item : LoadItem) (mClamped xClamped yClamped hClamped : Bool) (sEff : Option Int) (band : Band)
  | clearLatch (band : Band) (sEff : Int)
  | fill (quantity density : Nat) (clamped : Bool) (staged : Option Nat)
  | tankRead (r : TankReply)
  | mapClear (removed : Nat)
  | loadBays (count : Nat) (evicted : List Nat)
  | mapRead (r : MapReply)
  | setBayPermit (weeder pruner spray : Permit) (confirmed : ToolSet)
  | setBayProtect
  | confirmBay
  | mapLock (lock : LockState) (set : Nat)
  | mapUnlock
  | passOpen (pass : Option PassRecord) (clamped : Bool)
  | passHold (running : Bool) (cause : Option Suspension) (count : Nat)
  | passResume (running : Bool) (cause : Option Suspension)
  | passClose (last : Option LastPass) (counter rpc : Nat)
  | toolSet (pass : Option PassRecord) (clamped : Bool)
  | passRead (r : PassReply)
  | weederRecover (arm : Option ArmState) (stall fault : Bool)
  | weederRead (r : WeederReply)
  | pruneProgram (steps : Nat) (mode : ProgramMode)
  | pruneArm (armed : Bool) (head : HeadState) (fault : Bool)
  | pruneHalt (armed : Bool) (run : Option (Bool × Bool))
  | pruneRead (r : PruneReply)
  | trunkRead (r : TrunkReply)
  | logStatus (r : LogReply)
  | logRead (newest : Nat) (records : List SprayRecord)
  | logRelease (mark released free : Nat)
  | regProgram (slot : Nat) (image : List Byte)
  | regRead (states : List RegState) (current program : Option Nat) (bytes : List Byte)
deriving DecidableEq, Repr

/-- A frame, or the frames of one reply, in the transmit queue (R202); `sent` counts the segments of an OK reply already
sent. -/
inductive TxItem where
  | ok (kind tag : Byte) (result : OkResult) (sent : Nat)
  | refused (kind tag : Byte) (reason : Reason)
  | notice (flag : Flag) (cls : FlagClass) (detail : Detail)
deriving DecidableEq, Repr

end Sys2Proof.Machine
end

