-- ==== Sys2Proof/Config.lean ====
section
/-! DEFINITION. What is fixed for the machine: the bounds the spec gives, the default profile, the free values the spec leaves
open (each an opaque constant: no proof can see its value) and the bound on hand-offs inside one step. -/

namespace Sys2Proof.Config

open Sys2Proof.Machine

/-- Highest row position count and map position (R47, R52). -/
def rpcMax : Nat := 1048575

/-- Highest value of a 32-bit count (R160, R163, R176, R204). -/
def count32Max : Nat := 4294967295

/-- Highest value of the 16-bit counts that hold or wrap (R57, R90, R140, R202). -/
def count16Max : Nat := 65535

/-- Places of the bay window (R67), of the trunk list (R57), of the action queue (R111) and of the staging queue (R177). -/
def windowPlaces : Nat := 64
def trunkPlaces : Nat := 32
def queuePlaces : Nat := 16
def stagingPlaces : Nat := 4

/-- Slots of the log ring and places of the bad-slot set (R176). -/
def ringSlots : Nat := 4096
def badPlaces : Nat := 32

/-- Frames the receive buffer holds (R201), notices the transmit queue holds, bytes of result in a segment (R202). -/
def bufferPlaces : Nat := 4
def noticePlaces : Nat := 16
def segmentBytes : Nat := 118

/-- Highest tank quantity in mL (R163). -/
def tankMax : Nat := 2000000

/-- Time without a plausible arrival that begins a lost episode, in ms (R15). -/
def lostTime : Nat := 250

/-- Time a simulated arm or head move takes, in ms (R94, R129, R151). -/
def simulatedMove : Nat := 200

/-- Longest gap between two bytes of a frame, in ms (R200). -/
def byteGap : Nat := 2

/-- The defaults of the parameter tables, in force under NO_PROFILE (R206). -/
def defaults : Profile :=
  ⟨900, 0, 0, 600, 1600, (-200), 0, 1100, 80, 900, 250, 300, 900, 700, 300, 120, 500, 100, 400, 650, 1100, 900,
   0, 0, 0, 100, 1, 250, 350, 700, 1500, 450, 30, 2000, 4, 300, 300, 50, 600, 1800, 2600, 3400, 250, 250, 1200,
   200, 300, 1500, 1000, 600, 300, 50, 15, 64, 1000⟩

/-- DESIGN CHOICE (log 17, safe): how many hand-offs between blocks one step carries out at most; the mark `overrun` of
State says that a step met the bound. -/
def handOffBound : Nat := 1000000000000

/-- FREE VALUE (log 9): the order the spec leaves open, read at a fresh count each time. -/
opaque choice : Nat → Nat

/-- FREE VALUE (log 12): a byte of an area of the store that was left part-written. -/
opaque storeByte : Nat → Byte

/-- FREE VALUE (log 7): byte n of the factory block (R187). -/
opaque factoryByte : Nat → Byte

/-- FREE VALUE (log 11): the bytes of a result whose layout the spec does not give (section 11.6 gives LOG_READ's alone). -/
opaque resultBytes : OkResult → List Byte

/-- FREE VALUE (log 11): the bytes of a notice's detail. -/
opaque detailBytes : Detail → List Byte

end Sys2Proof.Config
end

