-- ==== Sys2Proof/Machine/State.lean ====
section
/-! DEFINITION. The state of the FS318, block by block, as plain data; the reasons a step may stop; the machine after
power-on. INVENTORY.md lists every item with its rule and reset value. -/

namespace Sys2Proof.Machine

/-- The model's clock in ms and the last times of the periodic events (log 3). -/
structure Clock where
  now : Nat
  sampleAt : Nat
  speedAt : Nat
  secondAt : Nat
  ceilAt : Nat
deriving DecidableEq, Repr

/-- Levels at the input pins (Table 0-2); `encA`, `encB` are the phase pair, which follows the wiring also while the part is
off (R46, log 6). -/
structure Pins where
  encA : Bool
  encB : Bool
  service : Bool
  armExt : Bool
  armRet : Bool
  headInpos : Bool
deriving DecidableEq, Repr

/-- Stability Unit (R27, R45). `rate` is the SAMPLE_RATE in use, a new one from the next read on (R9, log 51);
`plausibleAt` is the start of the interval that the stale and lost timers measure (R14, R15),
`recovery` the start of a running recovery timer (R28). -/
structure Stu where
  load : LoadTable
  rate : Int
  ring : Option Ring4
  held : Option Axes
  published : Option Published
  plausibleAt : Nat
  stale : Bool
  lost : Bool
  implausible : Bool
  weederAdm : Option AdmStatus
  prunerAdm : Option PrunerAdmission
  band : Band
  trip : Option TripRecord
  recovery : Option Nat
deriving DecidableEq, Repr

/-- Odometry Unit (R65); `history` holds twenty-one entries, newest first. -/
structure Odu where
  encA : Bool
  encB : Bool
  prescaler : Int
  rpc : Nat
  direction : Direction
  history : List Nat
  furthest : Nat
  offset : Int
  lastPost : Option PostRecord
  postRef : Option Nat
deriving DecidableEq, Repr

/-- Trunk Tracker (R65). -/
structure Ttr where
  trunks : List Trunk
  counter : Nat
  spacing : Option Nat
  overflowed : Bool
deriving DecidableEq, Repr

/-- Map Unit (R87); the effective permission is formed from window and cursor (R76). -/
structure Mpu where
  window : List Bay
  mapLock : Bool
  reference : Cursor
  weeder : Cursor
  pruner : Cursor
  spray : Cursor
deriving DecidableEq, Repr

/-- Pass Controller (R109). -/
structure Psc where
  mode : Mode
  pass : Option PassRecord
  lastPass : Option LastPass
deriving DecidableEq, Repr

/-- Weeder Sequencer (R131); `arm` is not formed until the end of STARTUP; `simArm` is the simulated arm of code 3. -/
structure Wsq where
  queue : List Action
  intent : Intent
  clearedTo : Option Int
  holdOverflow : Bool
  holdQueue : Bool
  stall : Bool
  fault : Bool
  arm : Option ArmState
  deadline : Option Nat
  simArm : ArmState
  simDue : Option Nat
deriving DecidableEq, Repr

/-- Pruner Sequencer (R153). -/
structure Prs where
  program : Option Program
  armed : Bool
  fault : Bool
  head : Head
  simHead : Head
  run : Option Run
  cand : Option Candidate
  counts : Counts
deriving DecidableEq, Repr

/-- Spray Gate (R173). -/
structure Spg where
  sections : Six Section
  acc : Nat
  tank : Option Tank
  overrunVolume : Nat
  reserved : Bool
  openRec : Option OpenRecord
deriving DecidableEq, Repr

/-- The non-volatile store (R174): log ring, the mark cell's two copies (none when the copy's check fails), registration
slots, profile image. The factory block is Config.factoryByte. -/
structure Store where
  ring : LogRing
  markA : Option Nat
  markB : Option Nat
  regs : List RegCell
  image : StoredImage
deriving DecidableEq, Repr

/-- Log Store, volatile part (R190). -/
structure Lgs where
  badSet : List Nat
  badCount : Nat
  newestSeq : Nat
  newestSlot : Option Nat
  released : Nat
  staging : List SprayRecord
  op : Option StoreOp
  waiting : List Request
  lastResult : Option StoreResult
  halted : Bool
  regStates : List RegState
deriving DecidableEq, Repr

/-- Condition Unit (R199); `held` are the notices of occurrences in STARTUP, `lockoutPending` an escalation taken there. -/
structure Cdu where
  flags : Flags
  lockoutPending : Bool
  held : List (Flag × FlagClass × Detail)
deriving DecidableEq, Repr

/-- Message Link (R209); `silenceFrom` is the start of a running silence timer, `time` the time-of-day counter. -/
structure Mlk where
  rx : Receiver
  lastByteAt : Nat
  rxBuf : List Frame
  tx : List TxItem
  lostNotices : Nat
  silenceFrom : Option Nat
  expired : Bool
  time : Option Nat
  phase : StartPhase
deriving DecidableEq, Repr

/-- The output pins; `headTxd` are the target messages sent on the head link since the part last started, oldest first (R135,
log 52); `ceil` is the duty of the CEIL period in progress (R41). -/
structure Out where
  armOut : Bool
  armIn : Bool
  blade : Bool
  cut : Cutters
  sections : Sections
  headTxd : List Pair
  driveEn : Bool
  ceil : Nat
  alert : Bool
deriving DecidableEq, Repr

/-- The state of the FS318. Model's own fields: `powered` (log 16), `time` (log 3), `freeCount` (log 9), `overrun`
(log 17), `pending` (log 2). -/
structure State where
  powered : Bool
  time : Clock
  pins : Pins
  profile : Profile
  noProfile : Bool
  stu : Stu
  odu : Odu
  ttr : Ttr
  mpu : Mpu
  psc : Psc
  wsq : Wsq
  prs : Prs
  spg : Spg
  store : Store
  lgs : Lgs
  cdu : Cdu
  mlk : Mlk
  out : Out
  freeCount : Nat
  overrun : Bool
  pending : List Instr
deriving DecidableEq, Repr

/-- Why a step could stop with a fault. The spec describes no fault that stops the part, so nothing raises one. -/
inductive Fault where
  /-- Raised by nothing (safe): every row of the table has an effect in the spec. -/
  | none
deriving DecidableEq, Repr

/-- Why a command could have no meaning. -/
inductive Refusal where
  /-- Raised by an arm of `exec` that has no meaning yet (safe); none is left. -/
  | notModelled (mnemonic : String)
deriving DecidableEq, Repr

/-! ### Values after power-on, block by block -/

/-- STU after power-on (Table 1-8, Table 2-5), its timers starting at `now`. -/
def Stu.boot (now : Nat) : Stu :=
  { load := { chassis := ⟨900, 0, 0, 600⟩, tank := ⟨1600, -200, 0, 1100⟩, weeder := ⟨80, 900, 700, 300⟩,
              head := ⟨120, 500, 700, 2200⟩, payload := ⟨0, 0, 0, 0⟩ }
    rate := Config.defaults.sampleRate
    ring := none, held := none, published := none, plausibleAt := now, stale := false, lost := false,
    implausible := false, weederAdm := none, prunerAdm := none, band := .normal, trip := none, recovery := none }

/-- ODU after power-on (Table 3-3), with the phase pair present on the pins (R46). -/
def Odu.boot (a b : Bool) : Odu :=
  { encA := a, encB := b, prescaler := 0, rpc := 0, direction := .forward, history := List.replicate 21 0,
    furthest := 0, offset := 0, lastPost := none, postRef := none }

/-- TTR after power-on (Table 3-3). -/
def Ttr.boot : Ttr := { trunks := [], counter := 0, spacing := none, overflowed := false }

def Cursor.boot : Cursor := { pos := none, res := .none, requestMark := false, missStretch := false }

/-- MPU after power-on (Table 4-5). -/
def Mpu.boot : Mpu :=
  { window := [], mapLock := false, reference := Cursor.boot, weeder := Cursor.boot, pruner := Cursor.boot,
    spray := Cursor.boot }

/-- PSC after power-on (Table 5-8). -/
def Psc.boot : Psc := { mode := .startup, pass := none, lastPass := none }

/-- WSQ after power-on (Table 6-5). -/
def Wsq.boot : Wsq :=
  { queue := [], intent := .armIn, clearedTo := none, holdOverflow := false, holdQueue := false, stall := false,
    fault := false, arm := none, deadline := none, simArm := .retracted, simDue := none }

/-- The simulated head at PASS_OPEN and after each reset (R151, Table 7-6). -/
def Head.simRest : Head :=
  { state := .atTarget, issued := Pair.rest, confirmed := Pair.rest, settled := true, deadline := none }

def Counts.zero : Counts := { pruned := 0, missed := 0, abandoned := 0, blocked := 0, skipped := 0, lost := 0 }

/-- PRS after power-on (Table 7-6). -/
def Prs.boot : Prs :=
  { program := none, armed := false, fault := false,
    head := { state := .unplaced, issued := Pair.rest, confirmed := ⟨1800, 600⟩, settled := false, deadline := none }
    simHead := Head.simRest, run := none, cand := none, counts := Counts.zero }

/-- SPG after power-on (Table 8-4). -/
def Spg.boot : Spg :=
  { sections := Six.all (.closed .notRunning), acc := 0, tank := none, overrunVolume := 0, reserved := false,
    openRec := none }

/-- LGS after power-on, before the scans (Table 9-3, log 8); what the RESET# line keeps of it until then is log 71. -/
def Lgs.boot : Lgs :=
  { badSet := [], badCount := 0, newestSeq := 0, newestSlot := none, released := 0, staging := [], op := none,
    waiting := [], lastResult := none, halted := false, regStates := List.replicate 8 .blank }

/-- Every flag CLEAR with the default classes of Table 10-1. -/
def Flags.boot : Flags :=
  { caution := ⟨none, .routine⟩, trip := ⟨none, .urgent⟩, latch := ⟨none, .urgent⟩, clip := ⟨none, .routine⟩,
    sensorStale := ⟨none, .routine⟩, sensorLost := ⟨none, .urgent⟩, mapMiss := ⟨none, .routine⟩,
    confirmRequest := ⟨none, .routine⟩, barredStop := ⟨none, .urgent⟩, postMismatch := ⟨none, .routine⟩,
    reverseStop := ⟨none, .urgent⟩, trunkOverflow := ⟨none, .routine⟩, weederQueueFull := ⟨none, .routine⟩,
    armTimeout := ⟨none, .routine⟩, headTimeout := ⟨none, .routine⟩, trunkMissed := ⟨none, .routine⟩,
    tankEmpty := ⟨none, .routine⟩, sprayLeak := ⟨none, .routine⟩, logNearFull := ⟨none, .routine⟩,
    logFull := ⟨none, .urgent⟩, logRetry := ⟨none, .routine⟩, regDamaged := ⟨none, .routine⟩,
    faultMajor := ⟨none, .urgent⟩, hostSilence := ⟨none, .urgent⟩, linkError := ⟨none, .routine⟩ }

/-- CDU after power-on (Table 10-3). -/
def Cdu.boot : Cdu := { flags := Flags.boot, lockoutPending := false, held := [] }

/-- MLK after power-on (Table 11-9). The phase is PROFILE_CHECK also while a store operation still runs after the RESET# line,
before that phase has begun (R206, log 61). -/
def Mlk.boot (now : Nat) : Mlk :=
  { rx := .hunting, lastByteAt := now, rxBuf := [], tx := [], lostNotices := 0, silenceFrom := none, expired := false,
    time := none, phase := .profileCheck }

/-- The outputs through STARTUP: all off, released and low, nothing sent on the head link (R45, R131, R153, R173, R192). -/
def Out.off : Out :=
  { armOut := false, armIn := false, blade := false, cut := Cutters.off, sections := Six.all false, headTxd := [],
    driveEn := false, ceil := 0, alert := false }

/-- A registration slot that was never written (R184). -/
def RegCell.blank : RegCell := { begun := false, bytes := List.replicate 32 0xFF#8, commit := .absent }

/-- A store in which nothing has been written yet (log 7). -/
def Store.fresh : Store :=
  { ring := [], markA := none, markB := none, regs := List.replicate 8 RegCell.blank, image := .none }

/-- The machine right after power-on (R206), its store never written. -/
def State.reset : State :=
  { powered := true
    time := { now := 0, sampleAt := 0, speedAt := 0, secondAt := 0, ceilAt := 0 }
    pins := { encA := false, encB := false, service := false, armExt := false, armRet := false, headInpos := false }
    profile := Config.defaults
    noProfile := true
    stu := Stu.boot 0
    odu := Odu.boot false false
    ttr := Ttr.boot
    mpu := Mpu.boot
    psc := Psc.boot
    wsq := Wsq.boot
    prs := Prs.boot
    spg := Spg.boot
    store := Store.fresh
    lgs := Lgs.boot
    cdu := Cdu.boot
    mlk := Mlk.boot 0
    out := Out.off
    freeCount := 0
    overrun := false
    pending := [] }

end Sys2Proof.Machine
end

