-- ==== Sys2Proof/Machine/Flags.lean ====
section
/-! DEFINITION. The 25 condition flags: their numbers, reading and writing one, the set of those SET, the level of ALERT#
(spec 10). -/

namespace Sys2Proof.Machine

/-- The number of a flag, its place in Table 10-1 (R202). -/
def Flag.number : Flag → Nat
  | .caution => 1
  | .trip => 2
  | .latch => 3
  | .clip => 4
  | .sensorStale => 5
  | .sensorLost => 6
  | .mapMiss => 7
  | .confirmRequest => 8
  | .barredStop => 9
  | .postMismatch => 10
  | .reverseStop => 11
  | .trunkOverflow => 12
  | .weederQueueFull => 13
  | .armTimeout => 14
  | .headTimeout => 15
  | .trunkMissed => 16
  | .tankEmpty => 17
  | .sprayLeak => 18
  | .logNearFull => 19
  | .logFull => 20
  | .logRetry => 21
  | .regDamaged => 22
  | .faultMajor => 23
  | .hostSilence => 24
  | .linkError => 25

/-- The flags in the order of Table 10-1. -/
def Flag.all : List Flag :=
  [.caution, .trip, .latch, .clip, .sensorStale, .sensorLost,
   .mapMiss, .confirmRequest, .barredStop, .postMismatch, .reverseStop, .trunkOverflow,
   .weederQueueFull, .armTimeout, .headTimeout, .trunkMissed, .tankEmpty, .sprayLeak,
   .logNearFull, .logFull, .logRetry, .regDamaged, .faultMajor, .hostSilence,
   .linkError]

/-- The flag of a number, none outside the 25 (R193, R194). -/
def Flag.ofNumber (n : Nat) : Option Flag := Flag.all.find? fun f => f.number == n

/-- One flag's state. -/
def Flags.get (fs : Flags) : Flag → FlagState
  | .caution => fs.caution
  | .trip => fs.trip
  | .latch => fs.latch
  | .clip => fs.clip
  | .sensorStale => fs.sensorStale
  | .sensorLost => fs.sensorLost
  | .mapMiss => fs.mapMiss
  | .confirmRequest => fs.confirmRequest
  | .barredStop => fs.barredStop
  | .postMismatch => fs.postMismatch
  | .reverseStop => fs.reverseStop
  | .trunkOverflow => fs.trunkOverflow
  | .weederQueueFull => fs.weederQueueFull
  | .armTimeout => fs.armTimeout
  | .headTimeout => fs.headTimeout
  | .trunkMissed => fs.trunkMissed
  | .tankEmpty => fs.tankEmpty
  | .sprayLeak => fs.sprayLeak
  | .logNearFull => fs.logNearFull
  | .logFull => fs.logFull
  | .logRetry => fs.logRetry
  | .regDamaged => fs.regDamaged
  | .faultMajor => fs.faultMajor
  | .hostSilence => fs.hostSilence
  | .linkError => fs.linkError

/-- One flag's state replaced. -/
def Flags.put (fs : Flags) (f : Flag) (v : FlagState) : Flags :=
  match f with
  | .caution => { fs with caution := v }
  | .trip => { fs with trip := v }
  | .latch => { fs with latch := v }
  | .clip => { fs with clip := v }
  | .sensorStale => { fs with sensorStale := v }
  | .sensorLost => { fs with sensorLost := v }
  | .mapMiss => { fs with mapMiss := v }
  | .confirmRequest => { fs with confirmRequest := v }
  | .barredStop => { fs with barredStop := v }
  | .postMismatch => { fs with postMismatch := v }
  | .reverseStop => { fs with reverseStop := v }
  | .trunkOverflow => { fs with trunkOverflow := v }
  | .weederQueueFull => { fs with weederQueueFull := v }
  | .armTimeout => { fs with armTimeout := v }
  | .headTimeout => { fs with headTimeout := v }
  | .trunkMissed => { fs with trunkMissed := v }
  | .tankEmpty => { fs with tankEmpty := v }
  | .sprayLeak => { fs with sprayLeak := v }
  | .logNearFull => { fs with logNearFull := v }
  | .logFull => { fs with logFull := v }
  | .logRetry => { fs with logRetry := v }
  | .regDamaged => { fs with regDamaged := v }
  | .faultMajor => { fs with faultMajor := v }
  | .hostSilence => { fs with hostSilence := v }
  | .linkError => { fs with linkError := v }

/-- The same change made to every flag. -/
def Flags.mapAll (g : FlagState → FlagState) (fs : Flags) : Flags :=
  { caution := g fs.caution,
    trip := g fs.trip,
    latch := g fs.latch,
    clip := g fs.clip,
    sensorStale := g fs.sensorStale,
    sensorLost := g fs.sensorLost,
    mapMiss := g fs.mapMiss,
    confirmRequest := g fs.confirmRequest,
    barredStop := g fs.barredStop,
    postMismatch := g fs.postMismatch,
    reverseStop := g fs.reverseStop,
    trunkOverflow := g fs.trunkOverflow,
    weederQueueFull := g fs.weederQueueFull,
    armTimeout := g fs.armTimeout,
    headTimeout := g fs.headTimeout,
    trunkMissed := g fs.trunkMissed,
    tankEmpty := g fs.tankEmpty,
    sprayLeak := g fs.sprayLeak,
    logNearFull := g fs.logNearFull,
    logFull := g fs.logFull,
    logRetry := g fs.logRetry,
    regDamaged := g fs.regDamaged,
    faultMajor := g fs.faultMajor,
    hostSilence := g fs.hostSilence,
    linkError := g fs.linkError }

/-- A flag that asserts ALERT#: SET with class URGENT (R192). -/
def FlagState.alerts (f : FlagState) : Bool := f.isSet && f.cls == .urgent

/-- The level of ALERT# (R192). -/
def Flags.alert (fs : Flags) : Bool := Flag.all.any fun f => (fs.get f).alerts

/-- The flags still SET, in order (R193). -/
def Flags.setFlags (fs : Flags) : List Flag := Flag.all.filter fun f => (fs.get f).isSet

/-- Make one flag CLEAR, its class kept (R193). -/
def Flags.clear (fs : Flags) (f : Flag) : Flags := fs.put f { fs.get f with detail := none }

/-- Make every flag CLEAR, classes kept (R199). -/
def Flags.clearAll (fs : Flags) : Flags := fs.mapAll fun v => { v with detail := none }

/-- The class a code names (R208). -/
def FlagClass.ofCode : Nat → Option FlagClass
  | 0 => some .off
  | 1 => some .routine
  | 2 => some .urgent
  | _ => none

/-- The class byte of a NOTICE frame (Table 11-5). -/
def FlagClass.code : FlagClass → Nat
  | .off => 0
  | .routine => 1
  | .urgent => 2

/-- The cause a minor fault escalates to (R195). -/
def Flag.minorCause : Flag → Option MajorCause
  | .caution => none
  | .trip => none
  | .latch => none
  | .clip => none
  | .sensorStale => some .sensor
  | .sensorLost => none
  | .mapMiss => none
  | .confirmRequest => none
  | .barredStop => none
  | .postMismatch => none
  | .reverseStop => none
  | .trunkOverflow => none
  | .weederQueueFull => none
  | .armTimeout => some .weeder
  | .headTimeout => some .pruner
  | .trunkMissed => none
  | .tankEmpty => none
  | .sprayLeak => none
  | .logNearFull => none
  | .logFull => none
  | .logRetry => some .log
  | .regDamaged => none
  | .faultMajor => none
  | .hostSilence => none
  | .linkError => none

end Sys2Proof.Machine
end

