-- ==== Sys2Proof/Machine/Operands.lean ====
section
/-! DEFINITION. The byte forms of spec 11: the CRC, the receiver, the payloads of the commands (Table 11-8), the profile
image (R207), and the bytes of the frames sent (Tables 11-4, 11-5, 11-7). -/

namespace Sys2Proof.Machine

/-! ### CRC and frames -/

/-- One bit of the CRC with polynomial 0x1021 (R200). -/
def crcBit (c : Nat) : Nat := if c < 32768 then 2 * c else (2 * c - 65536) ^^^ 0x1021

/-- One byte of the CRC (R200). -/
def crcByte (c : Nat) (b : Byte) : Nat :=
  crcBit (crcBit (crcBit (crcBit (crcBit (crcBit (crcBit (crcBit (c ^^^ (b.toNat * 256)))))))))

/-- CRC-16 of R200: initial value 0xFFFF, no reflection, no final inversion. -/
def crc16 (bs : List Byte) : Nat := bs.foldl crcByte 0xFFFF

/-- The bytes of a number, high byte first, in `k` places (section 11.6). -/
def toBytes : Nat → Nat → List Byte
  | 0, _ => []
  | k + 1, n => BitVec.ofNat 8 (n / 256 ^ k) :: toBytes k n

/-- The SYNC byte (R200). -/
def syncByte : Byte := 0x5A#8

/-- A whole frame of KIND, TAG and payload (Table 11-4). -/
def frameBytes (kind tag : Byte) (payload : List Byte) : List Byte :=
  let body := BitVec.ofNat 8 (payload.length + 2) :: kind :: tag :: payload
  syncByte :: body ++ toBytes 2 (crc16 body)

/-- What the receiver answers to a byte (R200). -/
inductive RxEvent where
  | frame (f : Frame)
  | discard (reason : DiscardReason)
deriving DecidableEq, Repr

/-- The end of a frame whose bytes since SYNC are all there: valid when the CRC matches (R200). -/
def frameEnd : List Byte → Option Frame
  | len :: kind :: tag :: rest =>
    let payload := rest.take (len.toNat - 2)
    if bigEndian (rest.drop (len.toNat - 2)) = crc16 (len :: kind :: tag :: payload)
    then some ⟨kind, tag, payload⟩ else none
  | _ => none

/-- What one byte does to the receiver: the next state, what it ends, and the bytes to hunt through again (R200). -/
def receive (rx : Receiver) (b : Byte) : Receiver × Option RxEvent × List Byte :=
  match rx with
  | .hunting => (if b = syncByte then .inFrame [] else .hunting, none, [])
  | .inFrame [] =>
    if b.toNat < 2 || 122 < b.toNat then (.hunting, some (.discard .length), [b]) else (.inFrame [b], none, [])
  | .inFrame (len :: bs) =>
    let all := (len :: bs) ++ [b]
    if all.length < len.toNat + 3 then (.inFrame all, none, [])
    else match frameEnd all with
      | some f => (.hunting, some (.frame f), [])
      | none => (.hunting, some (.discard .crc), all)

/-- Bytes taken one after another; after a discard the receiver hunts again from the byte after the discarded frame's
SYNC (R200). The first argument bounds the bytes taken, those taken again included. -/
def receiveAll : Nat → Receiver → List Byte → Receiver × List RxEvent
  | 0, rx, _ => (rx, [])
  | _ + 1, rx, [] => (rx, [])
  | n + 1, rx, b :: bs =>
    let (rx', ev, again) := receive rx b
    let (rx'', evs) := receiveAll n rx' (again ++ bs)
    (rx'', ev.toList ++ evs)

/-- More bytes than the hunts through one frame can take: a frame has at most 126 bytes. -/
def receiveBound : Nat := 20000

/-- What the bytes of a frame broken by a byte in error or by a gap hold: the receiver hunts through them, and a frame begun
among them is broken at the same place, a discard of its own (R200, log 24). The first argument bounds the frames. -/
def brokenFrames (r : DiscardReason) : Nat → List Byte → List RxEvent
  | 0, _ => []
  | n + 1, bs =>
    let x := receiveAll receiveBound .hunting bs
    x.2 ++ match x.1 with
      | .hunting => []
      | .inFrame inner => .discard r :: brokenFrames r n inner

/-- The receiver after the bytes of its frame were cut off there: it hunts (R200). -/
def cutOff (r : DiscardReason) (rx : Receiver) : Receiver × List RxEvent :=
  match rx with
  | .hunting => (.hunting, [])
  | .inFrame bs => (.hunting, brokenFrames r (bs.length + 1) bs)

/-- The receiver after a discard: hunting again from the byte after the discarded frame's SYNC, the last byte included unless
it was received in error (R200, log 24). -/
def rescan (r : DiscardReason) (last : Byte) (rx : Receiver) : Receiver × List RxEvent :=
  match rx with
  | .hunting => (.hunting, [])
  | .inFrame bs =>
    match r with
    | .length => receiveAll receiveBound .hunting (bs ++ [last])
    | .crc => receiveAll receiveBound .hunting (bs ++ [last])
    | .full => receiveAll receiveBound .hunting bs
    | .framing => cutOff .framing rx
    | .gap => cutOff .gap rx

/-! ### Coded fields (R208) -/

def toolOfCode : Nat → Option Tool
  | 0 => some .weeder
  | 1 => some .pruner
  | 2 => some .spray
  | _ => none

/-- A tool set: WEEDER in bit 0, PRUNER in bit 1, SPRAY in bit 2, the other bits 0. -/
def toolSetOfByte (b : Byte) : Option ToolSet :=
  if b.toNat < 8 then some ⟨b.getLsbD 0, b.getLsbD 1, b.getLsbD 2⟩ else none

/-- Sections as in the section mask of Table 11-6: bits 0 to 5 are L1 to R3, bits 7 to 6 are 0. -/
def sectionsOfByte (b : Byte) : Option Sections :=
  if b.toNat < 64
  then some ⟨b.getLsbD 0, b.getLsbD 1, b.getLsbD 2, b.getLsbD 3, b.getLsbD 4, b.getLsbD 5⟩ else none

/-- A setting coded 0 or 1. -/
def settingOfCode : Nat → Option Bool
  | 0 => some false
  | 1 => some true
  | _ => none

def bit (b : Bool) (n : Nat) : Nat := if b then n else 0

/-- A section set as the mask byte of Table 11-7. -/
def sectionsByte (s : Sections) : Nat :=
  bit s.l1 1 + bit s.l2 2 + bit s.l3 4 + bit s.r1 8 + bit s.r2 16 + bit s.r3 32

/-- The flags byte of Table 11-7. -/
def recordFlagsByte (f : RecordFlags) : Nat :=
  bit f.interrupted 1 + bit f.partialMark 2 + bit f.rehearsal 4 + bit f.mapMiss 8 + bit f.confirmed 16 +
    bit f.tankEmpty 32 + bit f.rateDeviation 64

/-- A spray record in LOG_READ, 38 bytes (Table 11-7). -/
def SprayRecord.bytes (r : SprayRecord) : List Byte :=
  toBytes 4 r.seq ++ toBytes 2 (r.bay.getD 0xFFFF) ++ toBytes 3 r.entry ++ toBytes 3 r.exit ++
    toBytes 1 (sectionsByte r.opened) ++ toBytes 1 (recordFlagsByte r.flags) ++ toBytes 4 r.volOpen ++
    toBytes 4 r.volClosed ++ toBytes 3 r.openLength ++ toBytes 2 r.row ++ toBytes 2 r.passId ++ toBytes 2 r.product ++
    toBytes 1 (r.slot + bit r.time.isSome 64 + bit r.rate.isSome 128) ++ toBytes 4 (r.time.getD 0) ++
    toBytes 2 (r.rate.getD 0)

/-- The bytes of a result: LOG_READ's by section 11.6, every other one a free value (log 11). -/
def OkResult.bytes : OkResult → List Byte
  | .logRead newest records =>
    toBytes 4 newest ++ toBytes 1 records.length ++ (records.map SprayRecord.bytes).flatten
  | r => Config.resultBytes r

/-- How many segments carry a result (R202). -/
def OkResult.segments (r : OkResult) : Nat :=
  max 1 ((r.bytes.length + Config.segmentBytes - 1) / Config.segmentBytes)

/-- The refusal code of Table 11-2. -/
def Reason.code : Reason → Nat
  | .badLength => 0x01
  | .unknownKind => 0x02
  | .wrongMode => 0x03
  | .busy => 0x04
  | .parked => 0x05
  | .outOfRange => 0x06
  | .locked => 0x07
  | .keyRequired => 0x08
  | .full => 0x09
  | .overlap => 0x0A
  | .notFound => 0x0B
  | .noProfile => 0x0C
  | .noTank => 0x0D
  | .noRegistration => 0x0E
  | .noProgram => 0x0F
  | .band => 0x10
  | .barredAhead => 0x11

/-- The frame of a transmit queue item that is sent next (R202, Tables 11-4 and 11-5). -/
def TxItem.frame : TxItem → List Byte
  | .ok kind tag r sent =>
    let lastMark := if sent + 1 < r.segments then 0 else 128
    frameBytes 0x80#8 tag
      (kind :: BitVec.ofNat 8 (sent + lastMark) :: (r.bytes.drop (sent * Config.segmentBytes)).take Config.segmentBytes)
  | .refused kind tag reason => frameBytes 0x81#8 tag [kind, BitVec.ofNat 8 reason.code]
  | .notice f cls d =>
    frameBytes 0x82#8 0#8 (BitVec.ofNat 8 f.number :: BitVec.ofNat 8 cls.code :: Config.detailBytes d)

/-! ### The profile image (R207) -/

/-- The 55 values in image order. -/
def Profile.values (p : Profile) : List Int :=
  [p.chassisM, p.chassisX, p.chassisY, p.chassisH, p.tankFullM, p.tankX, p.tankY, p.tankH,
   p.weederM, p.weederRX, p.weederRY, p.weederRH, p.weederEX, p.weederEY, p.weederEH, p.headM,
   p.headBX, p.headBY, p.headBH, p.halfTrack, p.tipFront, p.tipRear, p.trimX, p.trimY,
   p.trimZ, p.sampleRate, p.clipStrict, p.sTrip, p.sAdmit, p.sFull, p.vMax, p.sCaution,
   p.hyst, p.recoverTime, p.prescale, p.reverseLimit, p.postWindow, p.postStep, p.trunkSpacing, p.bladeLag,
   p.pruneLag, p.sprayLag, p.clearBefore, p.clearAfter, p.armTime, p.pruneLead, p.pruneLate, p.headTime,
   p.stepWait, p.flowK, p.sprayMinSpeed, p.leakLimit, p.rateTol, p.logNear, p.hostSilence]

/-- The profile of 55 values in image order. -/
def Profile.ofValues (vs : List Int) : Option Profile :=
  if vs.length = 55 then
    some ⟨vs.getD 0 0, vs.getD 1 0, vs.getD 2 0, vs.getD 3 0, vs.getD 4 0, vs.getD 5 0, vs.getD 6 0,
      vs.getD 7 0, vs.getD 8 0, vs.getD 9 0, vs.getD 10 0, vs.getD 11 0, vs.getD 12 0, vs.getD 13 0,
      vs.getD 14 0, vs.getD 15 0, vs.getD 16 0, vs.getD 17 0, vs.getD 18 0, vs.getD 19 0, vs.getD 20 0,
      vs.getD 21 0, vs.getD 22 0, vs.getD 23 0, vs.getD 24 0, vs.getD 25 0, vs.getD 26 0, vs.getD 27 0,
      vs.getD 28 0, vs.getD 29 0, vs.getD 30 0, vs.getD 31 0, vs.getD 32 0, vs.getD 33 0, vs.getD 34 0,
      vs.getD 35 0, vs.getD 36 0, vs.getD 37 0, vs.getD 38 0, vs.getD 39 0, vs.getD 40 0, vs.getD 41 0,
      vs.getD 42 0, vs.getD 43 0, vs.getD 44 0, vs.getD 45 0, vs.getD 46 0, vs.getD 47 0, vs.getD 48 0,
      vs.getD 49 0, vs.getD 50 0, vs.getD 51 0, vs.getD 52 0, vs.getD 53 0, vs.getD 54 0⟩
  else none

/-- Which of the 55 values are signed: those whose range has negative values. -/
def signedValues : List Bool :=
  [false, true, true, false, false, true, true, false, false, true, true, false, true, true, false, false, true,
   true, false, false, false, false, true, true, true, false, false, false, false, false, false, false, false,
   false, false, false, false, false, false, false, false, false, false, false, false, false, false, false, false,
   false, false, false, false, false, false]

/-- The 16-bit values of an image, signed where `signs` says so. -/
def imageValues : List Bool → List Byte → List Int
  | sg :: sgs, hi :: lo :: bs =>
    let n := bigEndian [hi, lo]
    (if sg then signed16 n else (n : Int)) :: imageValues sgs bs
  | _, _ => []

def within (lo hi v : Int) : Bool := decide (lo ≤ v) && decide (v ≤ hi)

/-- Every value in its range (Tables 1-4, 2-1, 3-1, 6-1, 7-1, 8-1, 9-1, 11-3), with the head base conditions of R9. -/
def Profile.inRange (p : Profile) : Bool :=
  within 100 3000 p.chassisM &&
  within (-3000) 3000 p.chassisX &&
  within (-3000) 3000 p.chassisY &&
  within 0 3000 p.chassisH &&
  within 0 3000 p.tankFullM &&
  within (-3000) 3000 p.tankX &&
  within (-3000) 3000 p.tankY &&
  within 0 3000 p.tankH &&
  within 0 3000 p.weederM &&
  within (-3000) 3000 p.weederRX &&
  within (-3000) 3000 p.weederRY &&
  within 0 3000 p.weederRH &&
  within (-3000) 3000 p.weederEX &&
  within (-3000) 3000 p.weederEY &&
  within 0 3000 p.weederEH &&
  within 0 3000 p.headM &&
  within (-3000) 3000 p.headBX &&
  within (-3000) 2400 p.headBY &&
  within 0 1200 p.headBH &&
  within 300 1500 p.halfTrack &&
  within 300 3000 p.tipFront &&
  within 300 3000 p.tipRear &&
  within (-200) 200 p.trimX &&
  within (-200) 200 p.trimY &&
  within (-200) 200 p.trimZ &&
  within 50 200 p.sampleRate &&
  within 0 1 p.clipStrict &&
  within 0 800 p.sTrip &&
  within 200 1000 p.sFull &&
  within 100 3000 p.vMax &&
  within 100 900 p.sCaution &&
  within 10 200 p.hyst &&
  within 500 10000 p.recoverTime &&
  within 1 256 p.prescale &&
  within 50 1000 p.reverseLimit &&
  within 50 1000 p.postWindow &&
  within 10 200 p.postStep &&
  within 200 2000 p.trunkSpacing &&
  within 0 5000 p.bladeLag &&
  within 0 5000 p.pruneLag &&
  within 0 8000 p.sprayLag &&
  within 50 600 p.clearBefore &&
  within 50 600 p.clearAfter &&
  within 100 3000 p.armTime &&
  within 0 1000 p.pruneLead &&
  within 0 1000 p.pruneLate &&
  within 200 5000 p.headTime &&
  within 200 5000 p.stepWait &&
  within 100 20000 p.flowK &&
  within 100 1000 p.sprayMinSpeed &&
  within 10 1000 p.leakLimit &&
  within 5 50 p.rateTol &&
  within 16 1024 p.logNear &&
  within 100 5000 p.hostSilence

/-- The tests of PROFILE_WRITE on the values (R9, R207). -/
def Profile.valid (p : Profile) : Bool :=
  p.inRange && (p.sampleRate == 50 || p.sampleRate == 100 || p.sampleRate == 200) &&
    decide (p.sTrip + p.hyst < p.sAdmit) && decide (p.sAdmit ≤ p.sCaution) && decide (p.sCaution < p.sFull)

/-- The profile of an image that passes every test, none otherwise (R207). -/
def Profile.ofImage (bs : List Byte) : Option Profile :=
  if bs.length = 110 then (Profile.ofValues (imageValues signedValues bs)).filter Profile.valid else none

/-- The image of a profile: its 55 values in image order, 16 bits each, high byte first (R207). -/
def Profile.image (p : Profile) : List Byte := p.values.flatMap fun v => toBytes 2 (v % 65536).toNat

/-- The profile PROFILE_CHECK finds: its CRC matches and every value passes the tests of PROFILE_WRITE (R206). -/
def StoredImage.profile : StoredImage → Option Profile
  | .whole bs crc => if crc16 bs = crc then Profile.ofImage bs else Option.none
  | .none => Option.none
  | .broken => Option.none

/-! ### Payloads (Table 11-8) -/

/-- A bay record of Table 11-6, 11 bytes; none when a field is outside its range (R68). -/
def bayOfBytes : List Byte → Option Bay
  | [i1, i0, p3, p2, p1, p0, l1, l0, codes, mask, prot] => do
    let index := bigEndian [i1, i0]
    let start := bigEndian [p3, p2, p1, p0]
    let length := bigEndian [l1, l0]
    let c := codes.toNat
    let sections ← sectionsOfByte mask
    let protect ← settingOfCode prot.toNat
    let weeder ← Permit.ofCode (c % 4)
    let pruner ← Permit.ofCode (c / 4 % 4)
    let spray ← Permit.ofCode (c / 16)
    if index ≤ 4095 && start ≤ Config.rpcMax && 500 ≤ length && length ≤ 20000 && start + length ≤ Config.rpcMax + 1
    then some { index, start, length, weeder, pruner, spray, mask := sections, protect,
                confirmed := ToolSet.empty, visited := ToolSet.empty }
    else none
  | _ => none

/-- A list of bytes cut into records of `k` bytes, the last of them as short as it comes; `n` bounds the records. -/
def chunks (k : Nat) : Nat → List Byte → List (List Byte)
  | 0, _ => []
  | n + 1, bs => if bs.isEmpty then [] else bs.take k :: chunks k n (bs.drop k)

/-- The bay records of a LOAD_BAYS payload; none when one has a field outside its range (R68). -/
def baysOfPayload (bs : List Byte) : Option (List Bay) := (chunks 11 8 bs).mapM bayOfBytes

/-- A cane program step of Table 11-8, 7 bytes; none when a field is outside Table 7-2 (R133). -/
def stepOfBytes : List Byte → Option Step
  | [h1, h0, r1, r0, c, delay, dwell] =>
    let height := bigEndian [h1, h0]
    let reach := bigEndian [r1, r0]
    if height ≤ 1800 && reach ≤ 600 && c.toNat % 128 < 16
    then some { target := ⟨height, reach⟩,
                cutters := ⟨c.getLsbD 0, c.getLsbD 1, c.getLsbD 2, c.getLsbD 3⟩,
                delay := delay.toNat, dwell := dwell.toNat, last := c.getLsbD 7 }
    else none
  | _ => none

/-- The steps up to and including the first with the end marker (R132). -/
def upToEnd : List Step → List Step
  | [] => []
  | st :: rest => if st.last then [st] else st :: upToEnd rest

/-- The program a PRUNE_PROGRAM payload carries; none on a field outside its range (R133). -/
def programOfPayload : List Byte → Option Program
  | [] => none
  | m :: bs => do
    let each ← settingOfCode m.toNat
    let steps ← (chunks 7 16 bs).mapM stepOfBytes
    some { mode := if each then .each else .once, steps := upToEnd steps }

/-- The four spray fields of PASS_OPEN and TOOL_SET with the clamped mark of the target rate; none when the row spacing or
the sections are outside their range (R91). -/
def sprayFieldsOf : List Byte → Option (SprayFields × Bool)
  | [p1, p0, t1, t0, w1, w0, sec] => do
    let sections ← sectionsOfByte sec
    let rate := bigEndian [t1, t0]
    let spacing := bigEndian [w1, w0]
    if sections.any && 1000 ≤ spacing && spacing ≤ 4000
    then some ({ product := bigEndian [p1, p0], rate := min 2000 (max 50 rate), spacing, sections },
               decide (rate < 50) || decide (2000 < rate))
    else none
  | _ => none

/-- A value clamped to a range (00, "Units and Arithmetic"). -/
def clampInt (lo hi v : Int) : Int := if v < lo then lo else if hi < v then hi else v

/-- The cutters driven of a set (R143). -/
def Cutters.gate (on : Bool) (c : Cutters) : Cutters := ⟨on && c.c1, on && c.c2, on && c.c3, on && c.c4⟩

end Sys2Proof.Machine
end

