-- ==== Sys2Proof/Machine/Margin.lean ====
section
/-! DEFINITION. The arithmetic of spec 01: trimming, averages, composite, margin, ceiling. Every division truncates toward
zero. -/

namespace Sys2Proof.Machine

/-- One axis trimmed and clamped, with whether it marks the sample clipped (R11). -/
def trimAxis (raw trim : Int) : Int × Bool :=
  let sum := raw + trim
  (clampInt (-4000) 4000 sum, raw == 4000 || raw == -4000 || decide (sum < -4000) || decide (4000 < sum))

/-- A reading trimmed by the profile in force (R11). -/
def trimSample (p : Profile) (r : Int × Int × Int) : Sample :=
  let x := trimAxis r.1 p.trimX
  let y := trimAxis r.2.1 p.trimY
  let z := trimAxis r.2.2 p.trimZ
  { a := ⟨x.1, y.1, z.1⟩, clipped := x.2 || y.2 || z.2 }

/-- The ring after an arrival has replaced the oldest entry (R12). -/
def Ring4.push (r : Ring4) (s : Sample) : Ring4 := ⟨r.s1, r.s2, r.s3, s⟩

/-- The averages of the ring (R12). -/
def Ring4.average (r : Ring4) : Axes :=
  ⟨(r.s0.a.x + r.s1.a.x + r.s2.a.x + r.s3.a.x).tdiv 4, (r.s0.a.y + r.s1.a.y + r.s2.a.y + r.s3.a.y).tdiv 4,
   (r.s0.a.z + r.s1.a.z + r.s2.a.z + r.s3.a.z).tdiv 4⟩

/-- Some entry of the ring is marked clipped (R21, stage SAMPLE). -/
def Ring4.anyClipped (r : Ring4) : Bool := r.s0.clipped || r.s1.clipped || r.s2.clipped || r.s3.clipped

/-- Least A_z of a supported machine, in mg (R13). -/
def supportLevel : Int := 250

/-- A sum over the five items. -/
def LoadTable.total (f : LoadItem → Int) (t : LoadTable) : Int :=
  f t.chassis + f t.tank + f t.weeder + f t.head + f t.payload

/-- Composite mass and centre of mass (R8). -/
def composite (t : LoadTable) : Composite :=
  let m := t.total fun i => i.m
  ⟨m, (t.total fun i => i.m * i.x).tdiv m, (t.total fun i => i.m * i.y).tdiv m, (t.total fun i => i.m * i.h).tdiv m⟩

/-- The margin of a composite under averages (R17 to R21). -/
def margin (p : Profile) (sampleClipped : Bool) (c : Composite) (a : Axes) : Margin :=
  let dy0 := c.y + (c.h * a.y).tdiv a.z
  let dx0 := c.x + (c.h * a.x).tdiv a.z
  let dy := clampInt (-32767) 32767 dy0
  let dx := clampInt (-32767) 32767 dx0
  let l0 := (1000 * (p.halfTrack - dy.natAbs)).tdiv p.halfTrack
  let g0 := if 0 ≤ dx then (1000 * (p.tipFront - dx)).tdiv p.tipFront else (1000 * (p.tipRear - dx.natAbs)).tdiv p.tipRear
  let l := max (-1000) l0
  let g := max (-1000) g0
  let stages : Stages :=
    { sample := sampleClipped, offsetX := dx0 != dx, offsetY := dy0 != dy, lateral := l0 != l, longitudinal := g0 != g }
  let s := min l g
  { dx, dy, l, g, s
    axis := if l ≤ g then .lateral else .longitudinal
    side := if l ≤ g then (if 0 ≤ dy then .right else .left) else (if 0 ≤ dx then .front else .rear)
    clipped := stages
    sEff := if stages.any && p.clipStrict == 1 then -1000 else s }

/-- The speed ceiling of an effective margin in NORMAL and CAUTION (R22). -/
def ceilingOf (p : Profile) (sEff : Int) : Nat :=
  (clampInt 0 p.vMax ((p.vMax * (sEff - p.sTrip)).tdiv (p.sFull - p.sTrip))).toNat

/-- The tank item's mass of a quantity in mL and a density in g/L (R3). -/
def tankMass (t : Tank) : Int := ((t.quantity * t.density / 1000000 : Nat) : Int)

/-- The sample period in ms of a rate in Hz (R10). -/
def samplePeriodOf (rate : Int) : Nat := 1000 / rate.toNat

end Sys2Proof.Machine
end

