-- ==== Sys2Proof/Machine/Work.lean ====
section
/-! DEFINITION. The hand-offs between the blocks inside one step, as data. A block's handler changes the block's own state
and answers the hand-offs that follow, in order; each is carried out whole before the next (Cascade.lean). -/

namespace Sys2Proof.Machine

/-- The load items that follow a report (Table 1-2). -/
inductive Item where
  | chassis | tank | weeder | head
deriving DecidableEq, Repr

/-- A hand-off. Each docstring names its taker and rule. -/
inductive Work where
  /-- CDU: an occurrence (R191). -/
  | occur (f : Flag) (d : Detail)
  /-- CDU: an occurrence of FAULT_MAJOR (R196). -/
  | major (c : MajorCause) (o : MajorOrigin)
  /-- CDU: the flag's part of that occurrence, taken in `m`. -/
  | majorFlag (c : MajorCause) (o : MajorOrigin) (m : Mode)
  /-- CDU, PSC: entry into LOCKOUT (R197). -/
  | enterLockout
  /-- STU: a margin computation (R16). -/
  | compute (c : Cause)
  /-- STU: the band machine takes the latest published result (R29, R33). -/
  | takeResult
  /-- STU: the ceiling (R22). -/
  | ceiling
  /-- STU: the waiting admission records (R25). -/
  | evalWaiting
  /-- STU: one of them. -/
  | evalOne (r : Requester)
  /-- STU: one of the three causes of a trip reaches the band machine (R30, R31). -/
  | trip (c : TripCause)
  /-- STU: a band that stops nothing is given to the blocks (R37). -/
  | bandGiven
  /-- STU: the recovery timer, when it has run for RECOVER_TIME (R34, R38). -/
  | recover
  /-- STU: a load item is recomputed from its source (R1). -/
  | reload (i : Item)
  /-- STU: SPG's report of a new tank quantity (R3, R163). -/
  | tankReport (quantity : Nat)
  /-- STU: an admission request; the weeder's posture is EXTENDED (R23). -/
  | ask (r : Requester) (p : Pair)
  /-- STU: a requester withdraws its record (R24, R25). -/
  | withdraw (r : Requester)
  /-- STU: a requester's move has started (R24). -/
  | moveStarted (r : Requester)
  /-- WSQ, PRS: STU's answer. -/
  | answer (r : Requester) (a : Answer)
  /-- STU: a FAULT_MAJOR with cause SENSOR (R30). -/
  | sensorFault
  /-- ODU: a change of RPC is given to the blocks (R48). -/
  | rpcChanged (rose : Bool)
  /-- ODU: furthest count and reversal (R51). -/
  | reverseTest (rose : Bool)
  /-- TTR: the weeder clears its claim on a trunk (R61). -/
  | clearWeeder (number : Nat)
  /-- TTR: records with no claim leave the list (R61). -/
  | purge
  /-- TTR: the pass has ended (R62). -/
  | trunksEnd
  /-- TTR: a tool is dropped (R62). -/
  | trunksDrop (t : Tool)
  /-- MPU: the cursors are placed again (R73). -/
  | mapMove
  /-- MPU: one cursor is placed again, with its crossing (R74). -/
  | moveCursor (c : CursorName)
  /-- MPU: the entry half of a crossing, or an entry at PASS_OPEN and TOOL_SET (R74, R86). -/
  | enter (c : CursorName) (r : Resolution)
  /-- MPU: a tool cursor in MISS begins a miss stretch (R75). -/
  | missTest (t : Tool)
  /-- MPU: the barred test of the REFERENCE cursor for the tools of `t` (R79). -/
  | barredTest (t : ToolSet)
  /-- MPU: an act query (R77). -/
  | actQuery (t : Tool)
  /-- A tool's block is given its effective permission (R76). -/
  | permission (t : Tool)
  /-- MPU: the pass has ended (R86). -/
  | mapEnd
  /-- PSC: a suspension event (R95). -/
  | suspend (c : Suspension)
  /-- PSC: the pass record becomes the last pass record (R90). -/
  | passEnd (r : EndReason)
  /-- PSC: the spray fields leave the pass record (R103). -/
  | dropSprayFields
  /-- WSQ: the drive condition is evaluated (R117). -/
  | drive
  /-- WSQ: due entries fire (R115). -/
  | fire
  /-- WSQ: the end of the firing of an EXTEND (R115, R118). -/
  | fireEnd (number : Nat)
  /-- WSQ: an IMMEDIATE RETRACT fires (R115). -/
  | immediate
  /-- WSQ: the lift of QUEUE (R114). -/
  | lift
  /-- WSQ: the rebuild (R113). -/
  | rebuild
  /-- WSQ: a new trunk record (R112). -/
  | queueTrunk (number pos : Nat)
  /-- WSQ: a full queue (R114). -/
  | queueFull (number : Option Nat)
  /-- WSQ: the arm enters a state (R121, R122). -/
  | arm (st : ArmState)
  /-- WSQ: a reason joins the withheld set (R120). -/
  | weederWithheld (stall : Bool)
  /-- WSQ: the band stops (R126). -/
  | weederTrip
  /-- WSQ: the pass is suspended, or WEEDER is dropped (R127, R128). -/
  | weederStop
  /-- WSQ: the pass has ended (R127). -/
  | weederEnd
  /-- WSQ: the trunk list has overflowed, or has room again (R119). -/
  | overflow (full : Bool)
  /-- PRS: targets are issued (R135). -/
  | issue (p : Pair)
  /-- PRS: a move to rest is commanded (R137). -/
  | rest
  /-- PRS: a head move has completed (R136). -/
  | headDone
  /-- PRS: the candidate is considered (R139). -/
  | consider
  /-- PRS: a run starts at a trunk (R139). -/
  | startRun (number : Nat)
  /-- PRS: the step enters DELAY, MOVE, DWELL (R141). -/
  | enterPhase (p : Phase)
  /-- PRS: the phase ends (R141). -/
  | phaseEnd
  /-- PRS: the run ends (R140). -/
  | endRun (o : Outcome)
  /-- PRS: an outcome is set on a trunk record (R140). -/
  | outcome (number : Nat) (o : Outcome)
  /-- PRS: every remaining pruner claim takes SKIPPED (R134, R146, R150). -/
  | skipAll
  /-- PRS: the halt completes (R146). -/
  | haltDone
  /-- PRS: the band stops outside a RUNNING pass (R147). -/
  | prunerTrip
  /-- PRS: FAULT joins the withheld set (R150). -/
  | prunerFault
  /-- PRS: the pass is suspended (R148). -/
  | prunerStop
  /-- PRS: the pass has resumed (R148). -/
  | prunerResume
  /-- PRS: the pass has ended, or PRUNER is dropped (R149). -/
  | prunerEnd (dropped : Bool)
  /-- PRS: a trunk is lost to a full list (R140). -/
  | trunkLost (number pos : Nat)
  /-- SPG: the sections are decided (R155). -/
  | decide
  /-- SPG: the reservation is sought (R158). -/
  | seek
  /-- SPG: the accumulator's case of R158. -/
  | seekForFlow
  /-- SPG: millilitres are taken off, one at a time, at a pulse (R160, R161). -/
  | takeOff
  /-- SPG: an entry of the SPRAY cursor (R165). -/
  | sprayEntry
  /-- SPG: the open record is closed (R167). -/
  | closeRecord
  /-- SPG: the pass is suspended (R170). -/
  | sprayStop
  /-- SPG: the Log Store's room report (R159). -/
  | roomReport
  /-- LGS: a record is staged (R177). -/
  | stage (r : SprayRecord)
  /-- LGS: the arbiter begins what can begin (R175). -/
  | arbiter
  /-- LGS: the log is halted (R180). -/
  | halt
  /-- LGS: the test of LOG_NEAR_FULL (R178). -/
  | nearFull
  /-- LGS: the reports of the start-up scans (R188, R189). -/
  | startReports
  /-- MLK: the end of STARTUP, when its three parts are done (R206). -/
  | startEndTest
  /-- MLK: the end of STARTUP itself (R206). -/
  | startEnd
  /-- STU and the other blocks take up a profile (R9, R38, R64, R207). -/
  | profileTaken (p : Profile) (noProfile : Bool)
  /-- MLK: a valid frame (R200, R201). -/
  | frameIn (f : Frame)
  /-- MLK: a discard (R200). -/
  | discard (reason : DiscardReason)
deriving DecidableEq, Repr

end Sys2Proof.Machine
end

