-- ==== Sys2Proof/Machine/Ops.lean ====
section
/-! DEFINITION. What the blocks ask of the state: modes and selections, cursors and permission, the drive permit, the output
pins, the log ring, the counts of the log, the transmit queue, free choices. -/

namespace Sys2Proof.Machine

/-! ### Modes and the pass -/

def State.mode (s : State) : Mode := s.psc.mode

def State.inPass (s : State) : Bool := s.psc.mode == .pass

/-- The pass is RUNNING (Table 5-3). -/
def State.running (s : State) : Bool := s.inPass && s.psc.pass.any fun p => p.suspension.isNone

/-- A tool is selected in the open pass. -/
def State.selected (s : State) (t : Tool) : Bool := s.inPass && s.psc.pass.any fun p => p.tools.has t

/-- The tools selected in the open pass. -/
def State.tools (s : State) : ToolSet := ⟨s.selected .weeder, s.selected .pruner, s.selected .spray⟩

/-- The rehearsal code of the open pass, LIVE outside a pass (R94). -/
def State.rehearsal (s : State) : Nat := if s.inPass then (s.psc.pass.map fun p => p.rehearsal).getD 0 else 0

/-- The rehearsal code simulates MOTION, TOOLS, VALVES (Table 5-4). -/
def State.simMotion (s : State) : Bool := s.rehearsal == 3
def State.simTools (s : State) : Bool := decide (2 ≤ s.rehearsal)
def State.simValves (s : State) : Bool := decide (1 ≤ s.rehearsal)

/-- STU is past its part of STARTUP (R12). -/
def State.computed (s : State) : Bool := s.stu.published.isSome

/-! ### Free choices and small updates -/

/-- One of `n` orders, left open by the spec (log 9). -/
def State.choose (s : State) (n : Nat) : Nat × State :=
  (Config.choice s.freeCount % n, { s with freeCount := s.freeCount + 1 })

/-- The items of a list in an order the spec leaves open (log 9); at most one item needs no choice. -/
def State.arrange {α : Type} : Nat → State → List α → List α × State
  | 0, s, l => (l, s)
  | _ + 1, s, [] => ([], s)
  | _ + 1, s, [a] => ([a], s)
  | n + 1, s, l =>
    let (k, s1) := s.choose l.length
    let (rest, s2) := State.arrange n s1 (l.eraseIdx k)
    ((l[k]?).toList ++ rest, s2)

/-- A count that holds at its highest value. -/
def bump (top n : Nat) : Nat := if n < top then n + 1 else n

/-! ### Map Unit -/

def Mpu.cursor (m : Mpu) : CursorName → Cursor
  | .reference => m.reference
  | .tool .weeder => m.weeder
  | .tool .pruner => m.pruner
  | .tool .spray => m.spray

def Mpu.setCursor (m : Mpu) (n : CursorName) (c : Cursor) : Mpu :=
  match n with
  | .reference => { m with reference := c }
  | .tool .weeder => { m with weeder := c }
  | .tool .pruner => { m with pruner := c }
  | .tool .spray => { m with spray := c }

def Mpu.bay (m : Mpu) (index : Nat) : Option Bay := m.window.find? fun b => b.index == index

/-- The bay a cursor is resolved to. -/
def Mpu.cursorBay (m : Mpu) (n : CursorName) : Option Bay :=
  match (m.cursor n).res with
  | .bay i => m.bay i
  | .miss => none
  | .none => none

/-- One bay of the window replaced by its image under `f`. -/
def Mpu.mapBay (m : Mpu) (index : Nat) (f : Bay → Bay) : Mpu :=
  { m with window := m.window.map fun b => if b.index == index then f b else b }

/-- The permission a bay gives a tool (Table 4-3). -/
def Bay.permission (b : Bay) (t : Tool) : Permission :=
  match b.permit t with
  | .barred => .passive
  | .passive => .passive
  | .confirm => if b.confirmed.has t then .opened else .awaitConfirm
  | .opened => .opened

/-- The effective permission of a tool cursor; absent outside a pass, where no cursor is resolved (R76, log 32). -/
def State.permission (s : State) (t : Tool) : Option Permission :=
  match (s.mpu.cursor (.tool t)).res with
  | .bay i => some (((s.mpu.bay i).map fun b => b.permission t).getD .passive)
  | .miss => some .passive
  | .none => none

def State.permits (s : State) (t : Tool) : Bool := s.permission t == some .opened

/-- The lag of a cursor's ground point behind the feeler (Table 0-4). -/
def State.lag (s : State) : CursorName → Int
  | .reference => 0
  | .tool .weeder => s.profile.bladeLag
  | .tool .pruner => s.profile.pruneLag
  | .tool .spray => s.profile.sprayLag

/-- A map position clamped to its range (R52). -/
def clampMap (p : Int) : Nat := (clampInt 0 Config.rpcMax p).toNat

/-- The map position of a cursor (R73). -/
def State.cursorPos (s : State) (n : CursorName) : Nat := clampMap (s.odu.rpc + s.odu.offset - s.lag n)

/-- The bay whose range contains a map position, or MISS (R73). -/
def Mpu.resolve (m : Mpu) (p : Nat) : Resolution :=
  match m.window.find? fun b => b.covers p with
  | some b => .bay b.index
  | none => .miss

/-- The lock state (Table 4-4). -/
def State.lock (s : State) : LockState :=
  if s.mpu.mapLock then (if s.pins.service then .soft else .hard) else .unlocked

/-! ### The drive permit and the speed (R39, R49) -/

/-- The terms of the permit that fail (R39, R40). -/
def State.failingTerms (s : State) : PermitTerms :=
  { mode := !(s.mode == .idle || s.mode == .pass), band := s.stu.band.stops, silence := s.mlk.expired }

/-- DRIVE_EN# asserted (R39). -/
def State.permit (s : State) : Bool :=
  (s.mode == .idle || s.mode == .pass) && !s.stu.band.stops && !s.mlk.expired

/-- The duty of CEIL in tenths of a percent (R41). -/
def State.duty (s : State) : Nat :=
  if s.permit then 1000 * ((s.stu.published.map fun p => p.c).getD 0) / s.profile.vMax.toNat else 0

/-- The latest S_EFF. -/
def State.sEff (s : State) : Option Int := s.stu.published.map fun p => p.margin.sEff

/-- The travel speed in mm/s (R49). -/
def Odu.speed (o : Odu) : Int := ((o.history.headD 0 : Nat) - (o.history.getLastD 0 : Nat) : Int) * 5

/-! ### Arms, heads, cutters -/

/-- The arm that the sequencer runs: the simulated one under code 3 (R129). -/
def State.armNow (s : State) : Option ArmState := if s.simMotion then some s.wsq.simArm else s.wsq.arm

def Wsq.withheld (w : Wsq) : Bool := w.stall || w.fault

def Wsq.hold (w : Wsq) : Bool := w.holdOverflow || w.holdQueue

/-- The head that the sequencer runs: the simulated one under code 3 (R151). -/
def State.headNow (s : State) : Head := if s.simMotion then s.prs.simHead else s.prs.head

/-- WSQ and PRS drive nothing and take no events of their machines in STARTUP and LOCKOUT (R127, R149). -/
def State.drives (s : State) : Bool := s.mode == .idle || s.mode == .pass

/-- The terms of the drive condition that fail (R117). -/
def State.driveTerms (s : State) : DriveTerms :=
  { intent := s.wsq.intent != .armOut
    permission := !s.permits .weeder
    running := !s.running
    selected := !s.selected .weeder || s.wsq.withheld
    hold := s.wsq.hold
    cleared := (s.wsq.clearedTo.map fun c => decide ((s.odu.rpc : Int) < c)).getD false }

def DriveTerms.none (t : DriveTerms) : Bool :=
  !(t.intent || t.permission || t.running || t.selected || t.hold || t.cleared)

/-- Only the permission term fails. -/
def DriveTerms.onlyPermission (t : DriveTerms) : Bool :=
  t.permission && !(t.intent || t.running || t.selected || t.hold || t.cleared)

def armIsOut : Option ArmState → Bool
  | some .extending => true
  | some .extended => true
  | some .retracted => false
  | some .retracting => false
  | some .stalled => false
  | none => false

def armIsDrivenIn : Option ArmState → Bool
  | some .retracting => true
  | some .stalled => true
  | some .retracted => false
  | some .extending => false
  | some .extended => false
  | none => false

/-- BLADE as commanded (R125). -/
def State.bladeCommanded (s : State) : Bool := armIsOut s.armNow && s.running

/-- The step a run is in. -/
def Prs.step (p : Prs) (r : Run) : Option Step := p.program.bind fun g => g.steps[r.step]?

/-- CUT1 to CUT4 as commanded (R143). -/
def State.cuttersCommanded (s : State) : Cutters :=
  match s.prs.run with
  | some r =>
    Cutters.gate (r.phase == .dwell && !r.suspended && s.running)
      (((s.prs.step r).map fun st => st.cutters).getD Cutters.off)
  | none => Cutters.off

/-! ### Spray and log counts -/

def Section.isOpen : Section → Bool
  | .opened => true
  | .closed _ => false

def State.openSections (s : State) : Sections := s.spg.sections.map Section.isOpen

def Spg.flowUnit (p : Profile) : Nat := p.flowK.toNat

def Lgs.usable (l : Lgs) : Nat := Config.ringSlots - l.badCount

def Lgs.unreleased (l : Lgs) : Nat := l.newestSeq - l.released

/-- The free slot count (R176); 0 where a scan that takes the earlier mark leaves more unreleased numbers than usable slots (R183,
log 60). -/
def Lgs.free (l : Lgs) : Nat := l.usable - l.unreleased

/-- The next sequence number (R176). -/
def Lgs.nextSeq (l : Lgs) : Nat := l.newestSeq + l.staging.length + 1

/-- The grant test of a reservation (R158). -/
def State.grantTest (s : State) : Bool :=
  decide (s.lgs.staging.length + 1 ≤ Config.stagingPlaces) &&
    decide (s.lgs.unreleased + s.lgs.staging.length + 1 ≤ s.lgs.usable) &&
    decide (s.lgs.nextSeq ≤ Config.count32Max)

/-- The room test of a record write (R177). -/
def State.roomTest (s : State) : Bool :=
  !s.lgs.halted && decide (s.lgs.staging.length + bit s.spg.reserved 1 < s.lgs.free)

/-- The highest-numbered PROGRAMMED slot of a list that starts at slot `n`. -/
def currentFrom : Nat → List RegState → Option Nat
  | _, [] => none
  | n, st :: rest =>
    match currentFrom (n + 1) rest with
    | some k => some k
    | none => if st == .programmed then some n else none

/-- The current registration slot (R184). -/
def Lgs.currentSlot (l : Lgs) : Option Nat := currentFrom 0 l.regStates

def Request.kind : Request → OpKind
  | .record => .record
  | .reg _ _ => .reg
  | .profile _ _ => .profile

/-- The slot of a registration program waiting or in progress (R185, R187). -/
def Lgs.regPending (l : Lgs) : Option Nat :=
  match l.op with
  | some (.reg slot _ _ _) => some slot
  | some (.record _ _ _ _) | some (.profile _ _ _) | none =>
    l.waiting.findSome? fun r =>
      match r with
      | .reg slot _ => some slot
      | .record => none
      | .profile _ _ => none

/-- A profile write waits or is in progress (R207). -/
def Lgs.profilePending (l : Lgs) : Bool :=
  (match l.op with
   | some (.profile _ _ _) => true
   | some (.record _ _ _ _) => false
   | some (.reg _ _ _ _) => false
   | none => false) || l.waiting.any fun r => r.kind == .profile

def Lgs.busy (l : Lgs) : Bool := l.op.isSome || !l.waiting.isEmpty

/-! ### The log ring: slots strictly rising, an unlisted slot never written (R176) -/

/-- The canonical form of the ring. -/
def LogRing.wf (r : LogRing) : Bool :=
  match r with
  | [] => true
  | (a, _) :: rest =>
    (match rest with
     | [] => decide (a < Config.ringSlots)
     | (b, _) :: _ => decide (a < b)) && LogRing.wf rest

/-- What a slot holds, none when it was never written. -/
def LogRing.read : LogRing → Nat → Option SlotContent
  | [], _ => none
  | (a, c) :: rest, n => if a = n then some c else LogRing.read rest n

/-- A slot written. -/
def LogRing.write : LogRing → Nat → SlotContent → LogRing
  | [], n, v => [(n, v)]
  | (a, c) :: rest, n, v =>
    if n < a then (n, v) :: (a, c) :: rest
    else if n = a then (n, v) :: rest
    else (a, c) :: LogRing.write rest n v

/-- The first non-bad slot at or after `n`, round the ring; `k` slots are looked at (R176). -/
def firstGood (bad : List Nat) : Nat → Nat → Nat
  | 0, n => n % Config.ringSlots
  | k + 1, n => if bad.contains (n % Config.ringSlots) then firstGood bad k (n + 1) else n % Config.ringSlots

/-- The next slot for a write (R176). -/
def Lgs.nextSlot (l : Lgs) : Nat :=
  firstGood l.badSet 64 ((l.newestSlot.map fun n => n + 1).getD 0)

/-! ### Conditions and the transmit queue -/

def TxItem.isNotice : TxItem → Bool
  | .notice _ _ _ => true
  | .ok _ _ _ _ => false
  | .refused _ _ _ => false

/-- A notice handed to the transmit queue, or lost (R202). -/
def Mlk.notice (m : Mlk) (f : Flag) (c : FlagClass) (d : Detail) : Mlk :=
  if (m.tx.filter TxItem.isNotice).length < Config.noticePlaces
  then { m with tx := m.tx ++ [.notice f c d] }
  else { m with lostNotices := bump Config.count16Max m.lostNotices }

/-- An occurrence at the flag: SET with its detail, and a notice when it was CLEAR and its class reports; in STARTUP the
notice is held (R191). -/
def State.raise (s : State) (f : Flag) (d : Detail) : State :=
  let v := s.cdu.flags.get f
  let cdu := { s.cdu with flags := s.cdu.flags.put f { v with detail := some d } }
  if v.isSet || v.cls == .off then { s with cdu }
  else if s.mode == .startup then { s with cdu := { cdu with held := cdu.held ++ [(f, v.cls, d)] } }
  else { s with cdu, mlk := s.mlk.notice f v.cls d }

/-! ### Output pins -/

/-- The output pins as the blocks drive them; CEIL keeps the duty of its period, the head link what was sent on it (R39, R41,
R121, R125, R129, R135, R143, R154, R192). In STARTUP, PARKED and LOCKOUT every actuator output is off. -/
def State.pinsOut (s : State) : Out :=
  let live := s.drives && !s.simMotion
  { armOut := live && armIsOut s.wsq.arm
    armIn := live && armIsDrivenIn s.wsq.arm
    blade := s.drives && s.bladeCommanded && !s.simTools
    cut := Cutters.gate (s.drives && !s.simTools) s.cuttersCommanded
    sections := s.openSections.map fun o => s.drives && o && !s.simValves
    headTxd := s.out.headTxd
    driveEn := s.permit
    ceil := s.out.ceil
    alert := s.cdu.flags.alert }

/-- The output pins at the end of a step. -/
def State.finish (s : State) : State := { s with out := s.pinsOut }

end Sys2Proof.Machine
end

