-- ==== Sys2Proof/Machine/Cdu.lean ====
section
/-! DEFINITION. The Condition Unit: occurrences, escalation, entry into LOCKOUT (spec 10). -/

namespace Sys2Proof.Machine

/-- An occurrence reported by its owner; a repeat of a minor fault is reported as FAULT_MAJOR (R191, R195). -/
def cduOccur (f : Flag) (d : Detail) (s : State) : State × List Work :=
  let repeated := (s.cdu.flags.get f).isSet
  let more :=
    match f.minorCause, d with
    | some c, .minor m => if repeated then [Work.major c (.repeated m)] else []
    | _, _ => []
  (s.raise f d, more)

/-- The effect of a cause at its block (Table 10-2). -/
def majorEffect : MajorCause → Work
  | .sensor => .sensorFault
  | .weeder => .weederWithheld false
  | .pruner => .prunerFault
  | .log => .halt

/-- An occurrence of FAULT_MAJOR: the cause's effect, then the flag (R196, log 34). -/
def cduMajor (c : MajorCause) (o : MajorOrigin) (s : State) : State × List Work :=
  (s, [majorEffect c, .majorFlag c o s.mode])

/-- The causes since FAULT_MAJOR was last set from CLEAR (R196). -/
def Flags.majorCauses (fs : Flags) : CauseSet :=
  match fs.faultMajor.detail with
  | some (.major _ _ _ causes) => causes
  | _ => CauseSet.empty

/-- FAULT_MAJOR set, or its detail replaced and the part locked out (R196, R197). -/
def cduMajorFlag (c : MajorCause) (o : MajorOrigin) (m : Mode) (s : State) : State × List Work :=
  let wasSet := s.cdu.flags.faultMajor.isSet
  let s' := s.raise .faultMajor (.major c o m (s.cdu.flags.majorCauses.add c))
  if !wasSet then (s', [])
  else match s.mode with
    | .startup => ({ s' with cdu := { s'.cdu with lockoutPending := true } }, [])
    | .lockout => (s', [])
    | .idle | .pass | .parked => (s', [.enterLockout])

/-- Entry into LOCKOUT: the mode, then the end of an open pass at each block (R105, R197, log 10). -/
def cduLockout (s : State) : State × List Work :=
  let works :=
    if s.inPass then
      [Work.decide, .closeRecord, .weederEnd, .prunerEnd false, .trunksEnd, .mapEnd, .passEnd .lockout]
    else [Work.decide]
  ({ s with psc := { s.psc with mode := .lockout } }, works)

end Sys2Proof.Machine
end

