-- ==== Sys2Proof/Machine/Lgs.lean ====
section
/-! DEFINITION. The Log Store: staging, the store arbiter, record writes, registration programs, profile writes, the
start-up scans (spec 09). -/

namespace Sys2Proof.Machine

/-! ### Staging and the arbiter (R174 to R177) -/

/-- A record handed over with its reservation is staged and its write joins the list (R177). -/
def lgsStage (r : SprayRecord) (s : State) : State × List Work :=
  ({ s with lgs := { s.lgs with staging := s.lgs.staging ++ [{ r with seq := s.lgs.nextSeq }]
                                waiting := s.lgs.waiting ++ [.record] } }, [.arbiter])

/-- A request can begin (R175). -/
def State.canBegin (s : State) : Request → Bool
  | .record => s.roomTest && !s.lgs.staging.isEmpty
  | .reg _ _ => true
  | .profile _ _ => true

/-- The first request of a list that can begin, and the list without it (R175). -/
def takeFirst (can : Request → Bool) : List Request → Option (Request × List Request)
  | [] => none
  | r :: rest => if can r then some (r, rest) else (takeFirst can rest).map fun (x, l) => (x, r :: l)

/-- The arbiter: a write waiting for room between attempts goes on when the room test holds; a free store begins the oldest
request that can begin (R175, R177, R179, log 13, log 15). -/
def lgsArbiter (s : State) : State × List Work :=
  match s.lgs.op with
  | some (.record r n true false) =>
    if s.roomTest then ({ s with lgs := { s.lgs with op := some (.record r n false false) } }, []) else (s, [])
  | some _ => (s, [])
  | none =>
    match takeFirst s.canBegin s.lgs.waiting with
    | none => (s, [])
    | some (req, rest) =>
      let l := { s.lgs with waiting := rest }
      match req with
      | .record =>
        match s.lgs.staging with
        | r :: _ => ({ s with lgs := { l with op := some (.record r 1 false false) } }, [])
        | [] => (s, [])
      | .reg slot image =>
        ({ s with lgs := { l with op := some (.reg slot image .beginMark false)
                                  regStates := l.regStates.set slot .programming } }, [])
      | .profile image crc => ({ s with lgs := { l with op := some (.profile image crc false) } }, [])

/-- The completion of the operation in progress, with its result (R174). -/
def Lgs.complete (l : Lgs) (k : OpKind) (slot : Option Nat) (done : Bool) : Lgs :=
  { l with op := none, lastResult := some ⟨k, slot, done⟩ }

def State.writeSlot (s : State) (slot : Nat) (c : SlotContent) : State :=
  { s with store := { s.store with ring := LogRing.write s.store.ring slot c } }

/-- LOG_NEAR_FULL after a write (R178), and at the end of STARTUP (R188). -/
def lgsNearFull (s : State) : State × List Work :=
  let l := s.lgs
  (s, if (l.free : Int) ≤ s.profile.logNear then [.occur .logNearFull (.logNearFull l.free l.usable l.unreleased)] else [])

/-- A record write attempt that is read back as written; after the RESET# line too, where R175 silences a write that ends
FAILED alone (R178). The room report comes before the arbiter takes the next request (log 63). -/
def lgsWritten (r : SprayRecord) (s : State) : State × List Work :=
  let slot := s.lgs.nextSlot
  let s1 := s.writeSlot slot (.record r)
  let l := { s.lgs.complete .record (some slot) true with newestSeq := r.seq, newestSlot := some slot
                                                          staging := s.lgs.staging.tail }
  ({ s1 with lgs := l }, [.roomReport, .nearFull, .arbiter])

/-- A record write attempt that is not: the slot is BAD; a 33rd one halts the log, a repeat of LOG_RETRY escalates, and
otherwise the next attempt, counted from here (R181, log 59), follows when there is room (R179). The report and its effects
come before the arbiter (log 69). -/
def lgsAttemptFailed (r : SprayRecord) (attempt : Nat) (cut : Bool) (s : State) : State × List Work :=
  let slot := s.lgs.nextSlot
  let s1 := s.writeSlot slot .badMark
  let full := decide (Config.badPlaces ≤ s.lgs.badSet.length)
  let count := s.lgs.badCount + 1
  let l : Lgs := { s.lgs with badCount := count
                              badSet := if full then s.lgs.badSet else s.lgs.badSet ++ [slot] }
  let failed := l.complete .record (some slot) false
  if cut then ({ s1 with lgs := failed }, [])
  else if full then ({ s1 with lgs := failed }, [.major .log (.badCount count), .arbiter])
  else
    let report := Work.occur .logRetry (.minor (.logRetry slot r.seq count))
    if s.cdu.flags.logRetry.isSet then ({ s1 with lgs := failed }, [report, .arbiter])
    else ({ s1 with lgs := { l with op := some (.record r (attempt + 1) true false) } }, [report, .arbiter])

/-! ### Registration slots (R184 to R186) -/

def State.mapReg (s : State) (slot : Nat) (f : RegCell → RegCell) : State :=
  { s with store := { s.store with regs := s.store.regs.modify slot f } }

def State.setReg (s : State) (slot : Nat) (st : RegState) : State :=
  { s with lgs := { s.lgs with regStates := s.lgs.regStates.set slot st } }

/-- `n` bytes of an area left part-written: free values (log 12). -/
def State.freeBytes (s : State) (n : Nat) : List Byte × State :=
  ((List.range n).map fun i => Config.storeByte (s.freeCount + i), { s with freeCount := s.freeCount + n })

/-- A part of a registration program read back as written: the next part, or the slot PROGRAMMED (R186). -/
def lgsPartDone (slot : Nat) (image : List Byte) (part : RegPart) (cut : Bool) (s : State) : State × List Work :=
  let next := fun p => ({ s with lgs := { s.lgs with op := some (.reg slot image p cut) } } : State)
  match part with
  | .beginMark => ((next .image).mapReg slot fun c => { c with begun := true }, [])
  | .image => ((next .commitMark).mapReg slot fun c => { c with bytes := image }, [])
  | .commitMark =>
    let s1 := (s.setReg slot .programmed).mapReg slot fun c => { c with commit := .valid }
    ({ s1 with lgs := s1.lgs.complete .reg (some slot) true }, [.arbiter])

/-- A part that is not: the slot DAMAGED, REG_DAMAGED raised (R186). -/
def lgsPartFailed (slot : Nat) (part : RegPart) (s : State) : State × List Work :=
  let (bytes, s0) := if part = .image then s.freeBytes 32 else ([], s)
  let s1 := (s0.setReg slot .damaged).mapReg slot fun c =>
    match part with
    | .beginMark => { c with begun := true }
    | .image => { c with bytes }
    | .commitMark => { c with commit := .invalid }
  ({ s1 with lgs := s1.lgs.complete .reg (some slot) false }, [.occur .regDamaged (.regPart slot part), .arbiter])

/-- The 32-byte image of data placed from an offset upward, wrapping at 32 (R185). -/
def placeBytes : Nat → List Byte → List Byte → List Byte
  | _, [], image => image
  | off, b :: bs, image => placeBytes ((off + 1) % 32) bs (image.set off b)

def regImage (offset : Nat) (data : List Byte) : List Byte := placeBytes offset data (List.replicate 32 0xFF#8)

/-- What the scan finds a registration slot to be (R189). -/
def RegCell.scan (c : RegCell) : RegState :=
  if c.commit = .valid then .programmed
  else if !c.begun && c.commit = .absent && c.bytes == List.replicate 32 0xFF#8 then .blank
  else .damaged

/-! ### The halt and the scans (R180, R188, R189) -/

/-- The log is halted: the Spray Gate closes its sections with reason LOG_HALT, and so before a pass with SPRAY is suspended
(R99, R170, R180, log 70). -/
def lgsHalt (s : State) : State × List Work :=
  ({ s with lgs := { s.lgs with halted := true } },
   [.decide] ++ if s.selected .spray then [.suspend .logHalt] else [])

def SlotContent.isBad : SlotContent → Bool
  | .record _ => false
  | .badMark => true
  | .garbage => true

/-- The newest written record of the ring with its slot (R188). -/
def newestOf (best : Option (Nat × Nat)) (c : Nat × SlotContent) : Option (Nat × Nat) :=
  match c.2 with
  | .record r =>
    match best with
    | some (q, slot) => if q < r.seq then some (r.seq, c.1) else some (q, slot)
    | none => some (r.seq, c.1)
  | .badMark => best
  | .garbage => best

/-- The higher of the mark cell's copies whose check holds, 0 when neither holds (R188). -/
def Store.mark (st : Store) : Nat := max (st.markA.getD 0) (st.markB.getD 0)

/-- The log as the start-up scan finds it (R188). -/
def Lgs.scanned (l : Lgs) (st : Store) : Lgs :=
  let bad := (st.ring.filter fun c => c.2.isBad).map fun c => c.1
  let newest := st.ring.foldl newestOf none
  { l with badSet := bad.take Config.badPlaces, badCount := min (Config.badPlaces + 1) bad.length
           newestSeq := (newest.map fun n => n.1).getD 0, newestSlot := newest.map fun n => n.2
           released := st.mark, halted := decide (Config.badPlaces < bad.length), staging := [], waiting := [] }

/-- The reports of the scans at the end of STARTUP (R188, R189): FAULT_MAJOR, LOG_NEAR_FULL, REG_DAMAGED, an order that R188,
R189 and R206 do not give (log 68). -/
def lgsStartReports (s : State) : State × List Work :=
  let damaged := ((List.range 8).filter fun i => s.lgs.regStates[i]? == some .damaged)
  (s, (if s.lgs.badCount = Config.badPlaces + 1 then [.major .log (.badCount s.lgs.badCount)] else []) ++ [.nearFull] ++
      if damaged.isEmpty then [] else [.occur .regDamaged (.regSet damaged)])

/-! ### The mark cell (R183) -/

/-- A release writes the older copy: the one whose check fails, or else the lower mark (R183, log 14). A readback that fails
leaves the copy written failing its check. -/
def Store.writeMark (st : Store) (n : Nat) (ok : Bool) : Store :=
  let v := if ok then some n else none
  match st.markA, st.markB with
  | none, _ => { st with markA := v }
  | some _, none => { st with markB := v }
  | some a, some b => if a ≤ b then { st with markA := v } else { st with markB := v }

def SlotContent.record? : SlotContent → Option SprayRecord
  | .record r => some r
  | .badMark => none
  | .garbage => none

/-- A record put in its place by sequence number; a number already there is not put in twice. -/
def insertRecord (r : SprayRecord) : List SprayRecord → List SprayRecord
  | [] => [r]
  | x :: l => if r.seq < x.seq then r :: x :: l else if r.seq = x.seq then x :: l else x :: insertRecord r l

/-- The written records above the released mark from a sequence number on, by rising number, the first four of them (R182):
a number in between whose slot holds it no longer is passed over. -/
def State.readable (s : State) (first : Nat) : List SprayRecord :=
  let inRange := fun r : SprayRecord =>
    decide (first ≤ r.seq) && decide (s.lgs.released < r.seq) && decide (r.seq ≤ s.lgs.newestSeq)
  (((s.store.ring.filterMap fun c => c.2.record?).filter inRange).foldr insertRecord []).take 4

end Sys2Proof.Machine
end

