-- ==== Sys2Proof/Machine/Stu.lean ====
section
/-! DEFINITION. The Stability Unit: load items, margin computations, ceiling, admission, band machine (spec 01, 02). -/

namespace Sys2Proof.Machine

/-! ### Load items (R2 to R7) -/

def itemChassis (p : Profile) : LoadItem := ⟨p.chassisM, p.chassisX, p.chassisY, p.chassisH⟩

def itemTank (p : Profile) (t : Option Tank) : LoadItem :=
  ⟨(t.map tankMass).getD p.tankFullM, p.tankX, p.tankY, p.tankH⟩

/-- The WEEDER item in the EXTENDED posture (R4). -/
def itemExtended (p : Profile) : LoadItem := ⟨p.weederM, p.weederEX, p.weederEY, p.weederEH⟩

def itemRetracted (p : Profile) : LoadItem := ⟨p.weederM, p.weederRX, p.weederRY, p.weederRH⟩

/-- The HEAD item at a coordinate pair (R5). -/
def itemHead (p : Profile) (q : Pair) : LoadItem := ⟨p.headM, p.headBX, p.headBY + q.reach, p.headBH + q.height⟩

/-- The head pair counted: the granted posture, or the larger of both pairs in a move, or the confirmed pair (R5). -/
def State.headCounted (s : State) : Pair :=
  match s.stu.prunerAdm with
  | some ⟨_, evaluated, .granted⟩ => evaluated
  | some ⟨_, _, .waiting⟩ | none =>
    if s.prs.head.state == .moving then s.prs.head.confirmed.max s.prs.head.issued else s.prs.head.confirmed

/-- An item as its source gives it now (Table 1-2). -/
def State.itemNow (s : State) : Item → LoadItem
  | .chassis => itemChassis s.profile
  | .tank => itemTank s.profile s.spg.tank
  | .weeder =>
    if s.stu.weederAdm == some .granted || s.wsq.arm != some .retracted then itemExtended s.profile
    else itemRetracted s.profile
  | .head => itemHead s.profile s.headCounted

def LoadTable.get (t : LoadTable) : Item → LoadItem
  | .chassis => t.chassis
  | .tank => t.tank
  | .weeder => t.weeder
  | .head => t.head

def LoadTable.put (t : LoadTable) (i : Item) (v : LoadItem) : LoadTable :=
  match i with
  | .chassis => { t with chassis := v }
  | .tank => { t with tank := v }
  | .weeder => { t with weeder := v }
  | .head => { t with head := v }

def State.setLoad (s : State) (t : LoadTable) : State := { s with stu := { s.stu with load := t } }

/-- An item's value reported: a load-item change starts a computation past STARTUP (R1). -/
def stuItem (i : Item) (v : LoadItem) (s : State) : State × List Work :=
  if v = s.stu.load.get i then (s, [])
  else (s.setLoad (s.stu.load.put i v), if s.computed then [.compute .load] else [])

/-- A report from an item's source, whose value is formed from the source as it stands (R1). -/
def stuReload (i : Item) (s : State) : State × List Work := stuItem i (s.itemNow i) s

/-- SPG's report of a new tank quantity (R3, R163). -/
def stuTankReport (quantity : Nat) (s : State) : State × List Work :=
  stuItem .tank (itemTank s.profile (s.spg.tank.map fun t => { t with quantity })) s

/-! ### Margin computations (R16 to R22) -/

def State.sampleState (s : State) : SampleState :=
  if s.stu.lost then .lost else if s.stu.stale then .stale else .fresh

/-- The margin of a load table under the held averages. -/
def State.marginOf (s : State) (t : LoadTable) (a : Axes) : Margin :=
  margin s.profile ((s.stu.ring.map Ring4.anyClipped).getD false) (composite t) a

/-- A clipped result is an occurrence of CLIP, with its own stages and S (R21). -/
def Published.clipReport (r : Published) : List Work :=
  if r.margin.clipped.any then [.occur .clip (.clip r.margin.clipped r.margin.s)] else []

/-- A margin computation publishes a result and hands it on, also where a granted record has published another one
meanwhile; the first ends STU's part of STARTUP (R16, R21, R206). -/
def stuCompute (c : Cause) (s : State) : State × List Work :=
  match s.stu.held with
  | none => (s, [])
  | some a =>
    let r : Published :=
      { margin := s.marginOf s.stu.load a, composite := composite s.stu.load, a, cause := c
        sampleState := s.sampleState, c := (s.stu.published.map fun p => p.c).getD 0 }
    ({ s with stu := { s.stu with published := some r } },
     [.takeResult, .ceiling, .evalWaiting] ++ r.clipReport ++ if s.computed then [] else [.startEndTest])

/-- The ceiling under the band that holds (R22). -/
def stuCeiling (s : State) : State × List Work :=
  let c := fun p : Published => if s.stu.band.stops then 0 else ceilingOf s.profile p.margin.sEff
  ({ s with stu := { s.stu with published := s.stu.published.map fun p => { p with c := c p } } }, [])

/-! ### The band machine (R28 to R34) -/

def Stu.setBand (u : Stu) (b : Band) : Stu := { u with band := b }

/-- The levels of Table 2-2. -/
def Profile.recoveryLevel (p : Profile) : Int := p.sTrip + p.hyst

def Profile.returnLevel (p : Profile) : Int := p.sCaution + p.hyst

/-- A published result taken by the band machine (R29, R33, R35); CAUTION is raised before the band is given (log 69). -/
def stuTakeResult (s : State) : State × List Work :=
  match s.stu.published with
  | none => (s, [])
  | some r =>
    let e := r.margin.sEff
    match s.stu.band with
    | .normal =>
      if e < s.profile.sTrip then (s, [.trip .stability])
      else if e < s.profile.sCaution then
        ({ s with stu := s.stu.setBand .caution }, [.occur .caution (.caution e r.margin.axis r.margin.side), .bandGiven])
      else (s, [])
    | .caution =>
      if e < s.profile.sTrip then (s, [.trip .stability])
      else if s.profile.returnLevel ≤ e then ({ s with stu := s.stu.setBand .normal }, [.bandGiven])
      else (s, [])
    | .tripped =>
      let recovering := r.sampleState == .fresh && decide (s.profile.recoveryLevel ≤ e)
      ({ s with stu := { s.stu with recovery := if recovering then some (s.stu.recovery.getD s.time.now) else none } }, [])
    | .latched => (s, [])

/-- The trip record of an event (R28). -/
def Published.tripRecord (r : Published) (c : TripCause) (st : SampleState) (latched : Bool) : TripRecord :=
  { cause := c, s := r.margin.s, sEff := r.margin.sEff, axis := r.margin.axis, side := r.margin.side,
    clipped := r.margin.clipped, sampleState := st, latched }

/-- A trip event in NORMAL or CAUTION; TRIP already SET latches (R30, R31, R32). The order of the Spray Gate's decision
and the suspension is left open (R170, log 9); the weeder takes the band before the suspension (R126, log 42); the flags, the
returned postures and the refusals come first and the pruner last, where R32 needs no order (log 69). -/
def stuTrip (c : TripCause) (s : State) : State × List Work :=
  match s.stu.band, s.stu.published with
  | .normal, some r | .caution, some r =>
    let latched := s.cdu.flags.trip.isSet
    let t := r.tripRecord c s.sampleState latched
    let refused :=
      (if s.stu.weederAdm.isSome then [Work.answer .weeder .refused] else []) ++
      (if s.stu.prunerAdm.isSome then [Work.answer .pruner .refused] else [])
    let s1 : State :=
      { s with stu := { s.stu with band := if latched then .latched else .tripped, trip := some t, recovery := none,
                                   weederAdm := none, prunerAdm := none,
                                   published := some { r with c := 0 } } }
    let (order, s2) := if s.running && s.selected .spray then s1.choose 2 else (0, s1)
    (s2,
     [.occur .trip (.trip t)] ++ (if latched then [.occur .latch (.trip t)] else []) ++
     [.reload .weeder, .reload .head] ++ refused ++ [.weederTrip] ++
     (if order = 0 then [.decide, .suspend .trip] else [.suspend .trip, .decide]) ++ [.prunerTrip])
  | _, _ => (s, [])

/-- FAULT_MAJOR with cause SENSOR: a trip event, or in TRIPPED the recovery timer stops (R30). -/
def stuSensorFault (s : State) : State × List Work :=
  match s.stu.band with
  | .normal | .caution => (s, [.trip .sensor])
  | .tripped => ({ s with stu := { s.stu with recovery := none } }, [])
  | .latched => (s, [])

/-- The recovery expiry: TRIPPED to CAUTION once the timer has run for RECOVER_TIME (R34). -/
def stuRecover (s : State) : State × List Work :=
  match s.stu.band, s.stu.recovery with
  | .tripped, some start =>
    if start + s.profile.recoverTime.toNat ≤ s.time.now then
      ({ s with stu := { s.stu with band := .caution, trip := none, recovery := none } }, [.ceiling, .bandGiven])
    else (s, [])
  | _, _ => (s, [])

/-! ### Admission (R23 to R26) -/

/-- The load table with a requester's item replaced by the evaluated posture (R23). -/
def State.tableFor (s : State) (r : Requester) : LoadTable :=
  match r, s.stu.prunerAdm with
  | .weeder, _ => { s.stu.load with weeder := itemExtended s.profile }
  | .pruner, some q => { s.stu.load with head := itemHead s.profile q.evaluated }
  | .pruner, none => s.stu.load

/-- The admission test of a requester's record (R23). -/
def State.admissible (s : State) (r : Requester) : Bool :=
  !s.stu.band.stops &&
    (s.stu.held.map fun a => decide (s.profile.sAdmit ≤ (s.marginOf (s.tableFor r) a).sEff)).getD false

def Stu.status (u : Stu) : Requester → Option AdmStatus
  | .weeder => u.weederAdm
  | .pruner => u.prunerAdm.map fun q => q.status

def Stu.setStatus (u : Stu) (r : Requester) (a : AdmStatus) : Stu :=
  match r with
  | .weeder => { u with weederAdm := some a }
  | .pruner => { u with prunerAdm := u.prunerAdm.map fun q => { q with status := a } }

def Stu.dropRecord (u : Stu) : Requester → Stu
  | .weeder => { u with weederAdm := none }
  | .pruner => { u with prunerAdm := none }

def Requester.item : Requester → Item
  | .weeder => .weeder
  | .pruner => .head

/-- A record evaluated: admitted it becomes GRANTED and its posture counts (R24); `first` is the requester's own
request, whose refusal it is told (R25). The load item's change is computed before the requester is told (log 69). -/
def stuEvaluate (first : Bool) (r : Requester) (s : State) : State × List Work :=
  if s.stu.status r == some .waiting && s.admissible r then
    ({ s with stu := s.stu.setStatus r .granted }, [.reload r.item, .answer r .admitted])
  else (s, if first then [.reload r.item, .answer r .refused] else [])

/-- A request makes or replaces the requester's record and is evaluated at once (R23). The evaluated pair is formed here and
stays as long as the record waits (R25, log 43). -/
def stuAsk (r : Requester) (p : Pair) (s : State) : State × List Work :=
  let stu :=
    match r with
    | .weeder => { s.stu with weederAdm := some .waiting }
    | .pruner =>
      { s.stu with prunerAdm := some { requested := p, evaluated := s.prs.head.confirmed.max p, status := .waiting } }
  stuEvaluate true r { s with stu }

/-- The waiting records at a published result, one after the other, the order left open when both wait (R25, log 9). -/
def stuEvalWaiting (s : State) : State × List Work :=
  let both := s.stu.status .weeder == some .waiting && s.stu.status .pruner == some .waiting
  if both then
    let (k, s') := s.choose 2
    (s', if k = 0 then [.evalOne .weeder, .evalOne .pruner] else [.evalOne .pruner, .evalOne .weeder])
  else (s, [.evalOne .weeder, .evalOne .pruner])

/-- A requester withdraws its record; a grant's posture returns to its source (R24, R25). -/
def stuWithdraw (r : Requester) (s : State) : State × List Work :=
  ({ s with stu := s.stu.dropRecord r }, [.reload r.item])

/-- A requester's move has started, which ends its grant (R24). -/
def stuMoveStarted (r : Requester) (s : State) : State × List Work :=
  if s.stu.status r == some .granted then ({ s with stu := s.stu.dropRecord r }, []) else (s, [])

/-- A band that holds nothing back is given to the blocks; the Spray Gate decides its sections (R37, R155). -/
def stuBandGiven (s : State) : State × List Work := (s, [.decide])

/-! ### The profile in force (R9, R38, R64, R206, R207) -/

/-- A margin parameter other than the load items changes (R9): every value of Table 1-4 but the items' own. -/
def Profile.marginChange (p q : Profile) : Bool := p.values.take 31 != q.values.take 31

/-- A band threshold changes (R38). -/
def Profile.bandChange (p q : Profile) : Bool :=
  p.sTrip != q.sTrip || p.sCaution != q.sCaution || p.hyst != q.hyst || p.recoverTime != q.recoverTime

/-- A profile comes into force at a PROFILE_WRITE completion: the load items together, one computation between them, or
else the latest result taken again; the prescaler restarts; a recovery timer past the new time expires (R9, R38, R64), the
result taken before it (log 44). -/
def stuProfile (p : Profile) (noProfile : Bool) (s : State) : State × List Work :=
  let s1 : State := { s with profile := p, noProfile, odu := { s.odu with prescaler := 0 } }
  let load : LoadTable :=
    { s.stu.load with chassis := s1.itemNow .chassis, tank := s1.itemNow .tank, weeder := s1.itemNow .weeder,
                      head := s1.itemNow .head }
  let s2 := s1.setLoad load
  let works :=
    if !s.computed then []
    else if load != s.stu.load || s.profile.marginChange p then [Work.compute .load]
    else if s.profile.bandChange p then [Work.takeResult, .ceiling]
    else []
  (s2, works ++ [.recover])

end Sys2Proof.Machine
end

