-- ==== Sys2Proof/Machine/Mlk.lean ====
section
/-! DEFINITION. The Message Link: frames received, replies, silence, the end of STARTUP, the resets (spec 11). -/

namespace Sys2Proof.Machine

/-! ### Frames received (R200, R201, R203) -/

/-- A valid frame restarts the silence timer and ends its expired state; through STARTUP the timer is stopped (R203). -/
def State.heard (s : State) : State :=
  { s with mlk := { s.mlk with silenceFrom := s.mlk.silenceFrom.map fun _ => s.time.now, expired := false } }

/-- The count of discards since LINK_ERROR was last set from CLEAR, this one included (R200). -/
def Flags.discards (fs : Flags) : Nat :=
  match fs.linkError.detail with
  | some (.linkError _ n) => bump Config.count16Max n
  | _ => 1

/-- A discard is an occurrence of LINK_ERROR (R200). -/
def mlkDiscard (reason : DiscardReason) (s : State) : State × List Work :=
  (s, [.occur .linkError (.linkError reason s.cdu.flags.discards)])

/-- A valid frame: the silence timer restarts, and the frame is held, or discarded when four are held (R200, R201). -/
def mlkFrameIn (f : Frame) (s : State) : State × List Work :=
  let s' := s.heard
  if s'.mlk.rxBuf.length < Config.bufferPlaces then
    ({ s' with mlk := { s'.mlk with rxBuf := s'.mlk.rxBuf ++ [f] } }, [])
  else (s', [.discard .full])

def RxEvent.work : RxEvent → Work
  | .frame f => .frameIn f
  | .discard r => .discard r

/-! ### The transmit queue (R202) -/

def State.send (s : State) (i : TxItem) : State := { s with mlk := { s.mlk with tx := s.mlk.tx ++ [i] } }

/-- The frames of the queue sent up to the previous reply's last (R201, log 5). -/
def flushReplies (q : List TxItem) : List TxItem :=
  (q.reverse.takeWhile TxItem.isNotice).reverse

/-- One frame of the queue has been sent (R202). -/
def sentOne : List TxItem → List TxItem
  | [] => []
  | .ok kind tag r sent :: rest => if sent + 1 < r.segments then .ok kind tag r (sent + 1) :: rest else rest
  | .refused _ _ _ :: rest => rest
  | .notice _ _ _ :: rest => rest

/-! ### Resets (R205, R206) -/

/-- Every block at its values after power-on, the store, the pins and the model's own fields kept (R27, R45, R65, R87, R109,
R131, R153, R173, R190, R199, R209). -/
def State.boot (s : State) : State :=
  { s with
    profile := Config.defaults, noProfile := true
    stu := Stu.boot s.time.now, odu := Odu.boot s.pins.encA s.pins.encB, ttr := Ttr.boot, mpu := Mpu.boot
    psc := Psc.boot, wsq := Wsq.boot, prs := Prs.boot, spg := Spg.boot, lgs := Lgs.boot, cdu := Cdu.boot
    mlk := Mlk.boot s.time.now, out := Out.off
    time := { s.time with sampleAt := s.time.now, speedAt := s.time.now, secondAt := s.time.now, ceilAt := s.time.now } }

/-- The operation in progress after the RESET# line: it runs on, and a write waiting for room between attempts is FAILED, its
result without a slot (R174, R175, log 58). -/
def Lgs.cutShort (l : Lgs) : Lgs :=
  match l.op with
  | some (.record _ _ true _) => l.complete .record none false
  | some (.record r n false _) => { l with op := some (.record r n false true), lastResult := none }
  | some (.reg slot image part _) => { l with op := some (.reg slot image part true), lastResult := none }
  | some (.profile image crc _) => { l with op := some (.profile image crc true), lastResult := none }
  | none => { l with lastResult := none }

/-- The part after the RESET# line: as after power-on, but for an operation in progress at the store, which completes
(R175, R205, Table 9-3). What the scans will find again, but for the halt, is kept until they do (R190, log 71). -/
def State.lineReset (s : State) : State :=
  let l := s.lgs.cutShort
  { s.boot with lgs := { l with staging := [], waiting := [], halted := false } }

/-- The area being written is left part-written at a loss of power (R175, R183, R186). -/
def State.losePower (s : State) : State :=
  match s.lgs.op with
  | some (.record _ _ false _) => s.writeSlot s.lgs.nextSlot .garbage
  | some (.record _ _ true _) => s
  | some (.reg slot _ part _) =>
    match part with
    | .beginMark => s.mapReg slot fun c => { c with begun := true }
    | .image =>
      let (bytes, s') := s.freeBytes 32
      s'.mapReg slot fun c => { c with bytes }
    | .commitMark => s.mapReg slot fun c => { c with commit := .invalid }
  | some (.profile _ _ _) => { s with store := { s.store with image := .broken } }
  | none => s

/-! ### The end of STARTUP (R206) -/

/-- STARTUP ends when both scans and the first margin computation are done (R206). -/
def mlkStartEndTest (s : State) : State × List Work :=
  (s, if s.mode == .startup && s.mlk.phase == .sampleWait && s.computed then [.startReports, .startEnd] else [])

/-- The held notices handed over when STARTUP ends (R191). -/
def Mlk.notices (m : Mlk) (l : List (Flag × FlagClass × Detail)) : Mlk :=
  l.foldl (fun m n => m.notice n.1 n.2.1 n.2.2) m

/-- The end of STARTUP: IDLE, or LOCKOUT after an escalation; the silence timer starts, the held notices are sent, the arm
is read and reported, rest is issued (R131, R153, R197, R203, R206, log 31). -/
def mlkStartEnd (s : State) : State × List Work :=
  let mode : Mode := if s.cdu.lockoutPending then .lockout else .idle
  let mlk := { s.mlk.notices s.cdu.held with silenceFrom := some s.time.now }
  let arm : ArmState := if s.pins.armRet then .retracted else .retracting
  let deadline := if s.pins.armRet then none else some (s.time.now + s.profile.armTime.toNat)
  ({ s with psc := { s.psc with mode }, mlk, cdu := { s.cdu with held := [], lockoutPending := false }
            wsq := { s.wsq with arm := some arm, deadline } },
   [.reload .weeder, .issue Pair.rest, .decide])

end Sys2Proof.Machine
end

