-- ==== Sys2Proof/Machine/Position.lean ====
section
/-! DEFINITION. The Odometry Unit, the Trunk Tracker and the Map Unit (spec 03, 04). -/

namespace Sys2Proof.Machine

/-! ### Odometry Unit -/

/-- A change of RPC given to the blocks: the Spray Gate's open length with the sections as they stood, the reversal test,
the cursors, the weeder, the pruner (R48, R51, R166, log 10). The open length counts on past the top of Table 8-3 (log
56). Outside a pass no block acts on it (R47). -/
def oduRpcChanged (rose : Bool) (s : State) : State × List Work :=
  let lengthen := rose && s.openSections.any
  let s' : State :=
    if lengthen then
      { s with spg := { s.spg with openRec := s.spg.openRec.map fun r => { r with openLength := r.openLength + 1 } } }
    else s
  if s.inPass then (s', [.reverseTest rose, .mapMove, .fire, .drive, .consider]) else (s, [])

/-- The furthest count and the reversal (R51): REVERSE_STOP before the suspension (log 69). -/
def oduReverseTest (rose : Bool) (s : State) : State × List Work :=
  if rose then ({ s with odu := { s.odu with furthest := max s.odu.furthest s.odu.rpc } }, [])
  else if s.running && decide (s.profile.reverseLimit < (s.odu.furthest : Int) - s.odu.rpc) then
    (s, [.occur .reverseStop (.reverseStop s.odu.rpc s.odu.furthest s.profile.reverseLimit), .suspend .reverse])
  else (s, [])

/-- What a change of the phase pair counts: +1, −1, or 0 for an illegal transition or no change (R46). The sequence forward
is 00, 10, 11, 01, written ENC_A ENC_B. -/
def phaseStep (a b a' b' : Bool) : Int :=
  if a = a' ∧ b = b' then 0
  else if a ≠ a' ∧ b ≠ b' then 0
  else if a ≠ a' then (if a' ≠ b then 1 else -1)
  else (if a = b' then 1 else -1)

/-- The prescaler and RPC after a pulse: the new ODU state and whether RPC rose or fell (R47, R48). -/
def Odu.pulse (o : Odu) (p : Int) (step : Int) : Odu × Option Bool :=
  let n := o.prescaler + step
  if p ≤ n then
    if o.rpc < Config.rpcMax then ({ o with prescaler := 0, rpc := o.rpc + 1, direction := .forward }, some true)
    else ({ o with prescaler := 0 }, none)
  else if n ≤ -p then
    if 0 < o.rpc then ({ o with prescaler := 0, rpc := o.rpc - 1, direction := .reverse }, some false)
    else ({ o with prescaler := 0 }, none)
  else ({ o with prescaler := n }, none)

/-- The distance from a map position to a bay, ends included (R53). -/
def Bay.distance (b : Bay) (q : Nat) : Nat := if q < b.start then b.start - q else q - b.stop

def natDistance (a b : Nat) : Nat := (a - b) + (b - a)

/-- The nearer of two boundaries to `q`, the lower one when equally near (R53). -/
def nearer (q : Nat) (best : Option Nat) (b : Nat) : Option Nat :=
  match best with
  | none => some b
  | some c =>
    if natDistance b q < natDistance c q || (natDistance b q == natDistance c q && decide (b < c)) then some b
    else some c

/-- The bay boundary nearest to `q` (R53). -/
def Mpu.nearestBoundary (m : Mpu) (q : Nat) : Option Nat :=
  (m.window.flatMap fun b => [b.start, b.stop]).foldl (nearer q) none

/-- A post capture classified (R53 to R56). The correction recorded is the one clamped to POST_STEP, also where the offset's
own range cuts the offset (R52, R56, log 45). -/
def oduPost (s : State) : State × List Work :=
  let rpc := s.odu.rpc
  let q := clampMap (rpc + s.odu.offset)
  let window := s.profile.postWindow.toNat
  let keep := fun (b : Option Nat) (correction : Int) (result : PostResult) (ref : Nat) =>
    { s with odu := { s.odu with lastPost := some ⟨rpc, q, b, correction, result⟩, postRef := some ref } }
  match s.odu.postRef.filter fun r => decide (natDistance rpc r ≤ window) with
  | some r => (keep none 0 .repeated r, [])
  | none =>
    match s.mpu.nearestBoundary q with
    | none => (keep none 0 .noBay rpc, [])
    | some b =>
      if !(s.mpu.window.any fun y => decide (y.distance q ≤ window)) then (keep none 0 .noBay rpc, [])
      else if natDistance b q ≤ window then
        let correction := clampInt (-s.profile.postStep) s.profile.postStep ((b : Int) - q)
        let offset := clampInt (-Config.rpcMax) Config.rpcMax (s.odu.offset + correction)
        let s' := keep (some b) correction .corrected rpc
        ({ s' with odu := { s'.odu with offset } }, if offset = s.odu.offset then [] else [.mapMove])
      else (keep (some b) 0 .mismatch rpc, [.occur .postMismatch (.postMismatch rpc q b (natDistance b q))])

/-! ### Trunk Tracker -/

/-- One record of the list replaced by its image. -/
def Ttr.mapTrunk (t : Ttr) (number : Nat) (f : Trunk → Trunk) : Ttr :=
  { t with trunks := t.trunks.map fun r => if r.number == number then f r else r }

def Ttr.find (t : Ttr) (number : Nat) : Option Trunk := t.trunks.find? fun r => r.number == number

def Trunk.claimed (t : Trunk) : Bool := t.weederClaim || t.prunerClaim

/-- Records with no claim leave; a list that was overflowed then has room (R60, R61). -/
def ttrPurge (s : State) : State × List Work :=
  let kept := s.ttr.trunks.filter Trunk.claimed
  if kept.length = s.ttr.trunks.length then (s, [])
  else if s.ttr.overflowed then
    ({ s with ttr := { s.ttr with trunks := kept, overflowed := false } }, [.overflow false])
  else ({ s with ttr := { s.ttr with trunks := kept } }, [])

/-- The weeder clears its claim on a trunk (R61). -/
def ttrClearWeeder (number : Nat) (s : State) : State × List Work :=
  ({ s with ttr := s.ttr.mapTrunk number fun r => { r with weederClaim := false } }, [.purge])

/-- A pruner claim that the Trunk Tracker itself clears as SKIPPED (R62). -/
def Trunk.skipPruner (r : Trunk) : Trunk :=
  if r.prunerClaim then { r with prunerClaim := false, outcome := some .skipped } else r

/-- A dropped tool's claims are cleared (R62). -/
def ttrDrop (t : Tool) (s : State) : State × List Work :=
  let f := fun r : Trunk =>
    match t with
    | .weeder => { r with weederClaim := false }
    | .pruner => r.skipPruner
    | .spray => r
  ({ s with ttr := { s.ttr with trunks := s.ttr.trunks.map f } }, [.purge])

/-- The end of a pass empties the list (R62). -/
def ttrEnd (s : State) : State × List Work :=
  ({ s with ttr := { s.ttr with trunks := [], overflowed := false } }, [])

/-- An edge of the feeler in a pass with a cutting tool (R58 to R60). A new record, and the two reports of an overflow, go to
the weeder before the pruner, which R59 and R60 leave open (log 64). -/
def ttrCapture (s : State) : State × List Work :=
  let rpc := s.odu.rpc
  let near := s.ttr.spacing.any fun r => decide ((rpc : Int) < r + s.profile.trunkSpacing)
  if near then (s, [])
  else
    let number := s.ttr.counter
    let weeder := s.selected .weeder && !s.wsq.withheld
    let pruner := s.selected .pruner && s.prs.armed && !s.prs.fault
    let ttr := { s.ttr with spacing := some rpc, counter := (number + 1) % (Config.count16Max + 1) }
    if !weeder && !pruner then ({ s with ttr }, [])
    else if ttr.trunks.length < Config.trunkPlaces then
      let bay := (s.mpu.cursorBay .reference).map fun b => b.index
      let r : Trunk := { number, pos := rpc, bay, weederClaim := weeder, prunerClaim := pruner, outcome := none }
      ({ s with ttr := { ttr with trunks := ttr.trunks ++ [r] } },
       (if weeder then [.queueTrunk number rpc] else []) ++ if pruner then [.consider] else [])
    else
      ({ s with ttr := { ttr with overflowed := true } },
       [.occur .trunkOverflow (.trunkOverflow number rpc)] ++ (if weeder then [.overflow true] else []) ++
       if pruner then [.trunkLost number rpc] else [])

/-! ### Map Unit -/

def CursorName.all : List CursorName := [.reference, .tool .weeder, .tool .pruner, .tool .spray]

/-- The cursors placed again: those that cross, in an order the spec leaves open (R73, R74, log 9). -/
def mpuMove (s : State) : State × List Work :=
  let crosses := fun n => s.mpu.resolve (s.cursorPos n) != (s.mpu.cursor n).res
  let (order, s') := s.arrange 4 (CursorName.all.filter crosses)
  (s', ((CursorName.all.filter fun n => !crosses n) ++ order).map .moveCursor)

/-- The exit of a tool cursor: VISITED through the far end, the request mark cleared, the exit given to the block (R74,
R81). -/
def mpuExit (t : Tool) (pos : Nat) (s : State) : State × List Work :=
  let visited := s.selected t && (s.mpu.cursorBay (.tool t)).any fun b => decide (b.stop ≤ pos)
  let mpu :=
    match (s.mpu.cursor (.tool t)).res with
    | .bay i => if visited then s.mpu.mapBay i fun b => { b with visited := b.visited.set t true } else s.mpu
    | .miss => s.mpu
    | .none => s.mpu
  let c := mpu.cursor (.tool t)
  ({ s with mpu := mpu.setCursor (.tool t) { c with requestMark := false } },
   match t with
   | .spray => [.closeRecord]
   | .weeder => []
   | .pruner => [])

/-- A cursor placed at its map position; a change of resolution is a crossing, exit before entry (R73, R74). -/
def mpuMoveCursor (n : CursorName) (s : State) : State × List Work :=
  let pos := s.cursorPos n
  let c := s.mpu.cursor n
  let res := s.mpu.resolve pos
  let s1 : State := { s with mpu := s.mpu.setCursor n { c with pos := some pos } }
  if !s.inPass || res = c.res then (s1, [])
  else
    match n with
    | .reference => (s1, [.enter n res])
    | .tool t =>
      let (s2, works) := mpuExit t pos s1
      (s2, works ++ [.enter n res])

/-- The entry of a cursor: resolution, miss stretch, barred test; the tool's block is given the entry (R74, R86). MAP_MISS is
raised before that, an order that R74 and R75 do not give (log 65). -/
def mpuEnter (n : CursorName) (r : Resolution) (s : State) : State × List Work :=
  let c := s.mpu.cursor n
  let inBay := match r with
    | .bay _ => true
    | .miss => false
    | .none => false
  let s' : State :=
    { s with mpu := s.mpu.setCursor n { c with res := r, missStretch := c.missStretch && !inBay } }
  match n with
  | .reference => (s', [.barredTest s.tools])
  | .tool .weeder => (s', [.missTest .weeder, .permission .weeder])
  | .tool .pruner => (s', [.missTest .pruner, .permission .pruner])
  | .tool .spray => (s', [.missTest .spray, .sprayEntry])

/-- A miss stretch of a selected tool begins (R75). -/
def mpuMissTest (t : Tool) (s : State) : State × List Work :=
  let c := s.mpu.cursor (.tool t)
  if s.selected t && c.res == .miss && !c.missStretch then
    ({ s with mpu := s.mpu.setCursor (.tool t) { c with missStretch := true } },
     [.occur .mapMiss (.mapMiss t (c.pos.getD 0))])
  else (s, [])

/-- The tools of a set whose code in a bay is BARRED. -/
def Bay.barredFor (b : Bay) (t : ToolSet) : ToolSet :=
  ⟨t.weeder && b.weeder == .barred, t.pruner && b.pruner == .barred, t.spray && b.spray == .barred⟩

/-- The barred test: a finding when the REFERENCE cursor's bay is BARRED for a tool of `t`; the detail names every selected
tool for which it is (R79). BARRED_STOP comes before the suspension (log 69). -/
def mpuBarredTest (t : ToolSet) (s : State) : State × List Work :=
  match s.mpu.cursorBay .reference with
  | some b =>
    if b.barredFor t != ToolSet.empty then
      (s, [.occur .barredStop (.barredStop b.index (b.barredFor s.tools) s.odu.rpc), .suspend .barred])
    else (s, [])
  | none => (s, [])

/-- The answer BARRED_AHEAD (R80). -/
def State.barredAhead (s : State) : Bool :=
  (s.mpu.cursorBay .reference).any fun b => b.barredFor s.tools != ToolSet.empty

/-- An act query: AWAIT_CONFIRM with the request mark clear raises CONFIRM_REQUEST (R77). -/
def mpuActQuery (t : Tool) (s : State) : State × List Work :=
  let c := s.mpu.cursor (.tool t)
  match c.res with
  | .bay i =>
    if s.permission t == some .awaitConfirm && !c.requestMark then
      ({ s with mpu := s.mpu.setCursor (.tool t) { c with requestMark := true } },
       [.occur .confirmRequest (.confirmRequest i t (c.pos.getD 0))])
    else (s, [])
  | .miss => (s, [])
  | .none => (s, [])

/-- The end of a pass at a cursor: its position held, no resolution, mark or stretch (R73, R86). -/
def Cursor.hold (c : Cursor) : Cursor := { c with res := .none, requestMark := false, missStretch := false }

/-- The end of a pass: CONFIRMED flags, request marks and miss stretches end, the positions are held (R73, R86). -/
def mpuEnd (s : State) : State × List Work :=
  let m := s.mpu
  ({ s with mpu := { m with window := m.window.map fun b => { b with confirmed := ToolSet.empty }
                            reference := m.reference.hold, weeder := m.weeder.hold, pruner := m.pruner.hold
                            spray := m.spray.hold } }, [])

/-- Two bays overlap (R66). -/
def Bay.overlaps (a b : Bay) : Bool := decide (a.start < b.stop) && decide (b.start < a.stop)

/-- A record repeats or overlaps one of a list (R68). -/
def Bay.clashes (a : Bay) (l : List Bay) : Bool := l.any fun b => a.overlaps b || a.index == b.index

/-- Two records of a message overlap or share an index (R68). -/
def anyClash : List Bay → Bool
  | [] => false
  | b :: rest => b.clashes rest || anyClash rest

/-- A bay put in its place by start (R68). -/
def insertBay (b : Bay) : List Bay → List Bay
  | [] => [b]
  | c :: rest => if b.start < c.start then b :: c :: rest else c :: insertBay b rest

/-- A bay is evictable: every tool cursor has passed its end and the Spray Gate has no open record for it (R69). -/
def State.evictable (s : State) (b : Bay) : Bool :=
  let passed := fun c : Cursor => c.pos.any fun p => decide (b.stop ≤ p)
  passed s.mpu.weeder && passed s.mpu.pruner && passed s.mpu.spray &&
    !(s.spg.openRec.any fun r => r.bay == some b.index)

/-- The bays to evict for `need` more places: from the oldest, as long as they are evictable; none when the room is not
found (R69). -/
def evict (evictable : Bay → Bool) : Nat → List Bay → Option (List Bay)
  | 0, _ => some []
  | _ + 1, [] => none
  | n + 1, b :: rest => if evictable b then (evict evictable n rest).map (b :: ·) else none

/-- The cursors in MISS whose map position an added bay contains cross into it (R70). -/
def State.addedCrossings (s : State) : List CursorName :=
  CursorName.all.filter fun n =>
    s.inPass && (s.mpu.cursor n).res == .miss && s.mpu.resolve (s.cursorPos n) != .miss

end Sys2Proof.Machine
end

