-- ==== Sys2Proof/Machine/Prs.lean ====
section
/-! DEFINITION. The Pruner Sequencer (spec 07). -/

namespace Sys2Proof.Machine

/-! ### Run windows (R138) -/

def windowOpen (p : Profile) (pos : Nat) : Int := pos + p.pruneLag - p.pruneLead

def windowLatest (p : Profile) (pos : Nat) : Int := pos + p.pruneLag + p.pruneLate

/-- The candidate: the oldest record with a pruner claim (R139). -/
def Ttr.candidate (t : Ttr) : Option Trunk := t.trunks.find? fun r => r.prunerClaim

/-! ### The head (R135 to R137, R151) -/

/-- Targets issued to a head, with the time at which its move ends by itself: a move in progress is replaced first; a
move to the settled confirmed pair is not sent (R135, R136). Answers the head and whether the move is done at once. -/
def Head.issue (h : Head) (p : Pair) (due : Nat) : Head × Bool :=
  let h1 := if h.state == .moving then { h with confirmed := h.confirmed.max h.issued, settled := false } else h
  if h1.settled && p == h1.confirmed then ({ h1 with state := .atTarget, issued := p, deadline := none }, true)
  else ({ h1 with state := .moving, issued := p, deadline := some due }, false)

/-- A completed move: the confirmed pair becomes the issued pair, settled (R136). -/
def Head.complete (h : Head) : Head :=
  { h with state := .atTarget, confirmed := h.issued, settled := true, deadline := none }

/-- A move that ends without its indication (R136). -/
def Head.bound (h : Head) : Head :=
  { h with confirmed := h.confirmed.max h.issued, settled := false, deadline := none }

def State.setHead (s : State) (h : Head) : State :=
  if s.simMotion then { s with prs := { s.prs with simHead := h } } else { s with prs := { s.prs with head := h } }

/-- A target message on the head link; none under code 3 (R135, R151, log 52). -/
def State.sendTargets (s : State) (p : Pair) : State :=
  if s.simMotion then s else { s with out := { s.out with headTxd := s.out.headTxd ++ [p] } }

/-- Targets issued by the sequencer, sent unless the head stands there; the issue ends a grant and is reported (R24, R135).
Without a run the change of head state has the candidate considered (R139). -/
def prsIssue (p : Pair) (s : State) : State × List Work :=
  if !s.drives then (s, [])
  else
    let time := if s.simMotion then Config.simulatedMove else s.profile.headTime.toNat
    let (h, done) := s.headNow.issue p (s.time.now + time)
    ((if done then s else s.sendTargets p).setHead h,
     [.moveStarted .pruner, .reload .head] ++ (if done then [.headDone] else []) ++
     if s.prs.run.isNone then [.consider] else [])

/-- A commanded rest (R137). -/
def prsRest (s : State) : State × List Work :=
  let h := s.headNow
  let away :=
    match h.state with
    | .atTarget => h.confirmed != Pair.rest
    | .moving => h.issued != Pair.rest
    | .unplaced => false
  (s, if away then [.issue Pair.rest] else [])

/-! ### Outcomes (R140) -/

def Counts.add (c : Counts) : Outcome → Counts
  | .pruned => { c with pruned := bump Config.count16Max c.pruned }
  | .missed => { c with missed := bump Config.count16Max c.missed }
  | .abandoned => { c with abandoned := bump Config.count16Max c.abandoned }
  | .blocked => { c with blocked := bump Config.count16Max c.blocked }
  | .skipped => { c with skipped := bump Config.count16Max c.skipped }

/-- An outcome set on a record that holds a pruner claim: the claim cleared, the outcome counted, MISSED reported before
the record leaves the list (R140, log 69). -/
def prsOutcome (number : Nat) (o : Outcome) (s : State) : State × List Work :=
  match (s.ttr.find number).filter fun t => t.prunerClaim with
  | none => (s, [])
  | some t =>
    let counts := s.prs.counts.add o
    ({ s with prs := { s.prs with counts }
              ttr := s.ttr.mapTrunk number fun r => { r with prunerClaim := false, outcome := some o } },
     (if o == .missed then
        [.occur .trunkMissed
          (.trunkMissed number t.pos (windowLatest s.profile t.pos) s.odu.rpc counts.missed)]
      else []) ++ [.purge])

/-- Every remaining pruner claim takes SKIPPED (R134, R146, R150). -/
def prsSkipAll (s : State) : State × List Work :=
  (s, (s.ttr.trunks.filter fun t => t.prunerClaim).map fun t => .outcome t.number .skipped)

/-- A trunk lost to a full list counts as missed (R60, R140). -/
def prsTrunkLost (number pos : Nat) (s : State) : State × List Work :=
  let c := s.prs.counts
  ({ s with prs := { s.prs with counts := { c with missed := bump Config.count16Max c.missed
                                                   lost := bump Config.count16Max c.lost } } },
   [.occur .trunkMissed (.trunkLost number pos)])

/-! ### Candidates (R139) -/

/-- The candidate considered while the pass is RUNNING with PRUNER selected and no run in progress (R139); a withheld
pruner has none, its claims being SKIPPED (R150). The mark of waiting stands as it was last found here, through a suspension
too (log 55), and while RPC has fallen back below the opening, where the step "window closed" comes before any permission
(log 76). -/
def prsConsider (s : State) : State × List Work :=
  match s.running && s.selected .pruner && !s.prs.fault && s.prs.run.isNone, s.ttr.candidate with
  | true, some t =>
    let rpc : Int := s.odu.rpc
    let known := s.prs.cand.filter fun c => c.trunk == t.number
    let mark := fun w => { s with prs := { s.prs with cand := some ⟨t.number, w⟩ } }
    if windowLatest s.profile t.pos < rpc then
      ({ s with prs := { s.prs with cand := none } },
       [.outcome t.number (if known.any fun c => c.waiting then .blocked else .missed), .consider])
    else if rpc < windowOpen s.profile t.pos then (s, [])
    else
      let query : List Work := if known.isNone then [.actQuery .pruner] else []
      match s.permission .pruner with
      | some .opened =>
        if s.headNow.state == .unplaced then (mark false, query) else (mark false, query ++ [.startRun t.number])
      | some .awaitConfirm => (mark true, query)
      | some .passive | none => ({ s with prs := { s.prs with cand := none } }, [.outcome t.number .blocked, .consider])
  | _, _ => (s, [])

/-! ### The run (R141 to R146) -/

def State.setRun (s : State) (r : Option Run) : State := { s with prs := { s.prs with run := r } }

/-- A run starts at step 0 (R141). -/
def prsStartRun (number : Nat) (s : State) : State × List Work :=
  if s.prs.run.isSome then (s, [])
  else
    (s.setRun (some { trunk := number, step := 0, phase := .delay, timer := none, deferred := false, stepWait := none,
                      blocking := false, halting := false, suspended := false }), [.enterPhase .delay])

/-- The entry into a phase of the current step (R141 to R143); delay and dwell count in 10 ms. -/
def prsEnterPhase (p : Phase) (s : State) : State × List Work :=
  match s.prs.run, s.prs.run.bind s.prs.step with
  | some r, some st =>
    let timed := fun n =>
      if n = 0 then (s.setRun (some { r with phase := p, timer := none }), [Work.phaseEnd])
      else (s.setRun (some { r with phase := p, timer := some (s.time.now + 10 * n) }), [])
    match p with
    | .delay => timed st.delay
    | .dwell => timed st.dwell
    | .move =>
      let c := s.prs.head.confirmed
      let raises := decide (c.height < st.target.height) || decide (c.reach < st.target.reach)
      (s.setRun (some { r with phase := p, timer := none }),
       [if raises then .ask .pruner st.target else .issue st.target])
  | _, _ => (s, [])

/-- The end of a phase: BLOCKING ends the run; DELAY leads to MOVE, MOVE to DWELL, DWELL to the next step or the end; a
halt ends the run at its DWELL (R141, R143, R144, R146). -/
def prsPhaseEnd (s : State) : State × List Work :=
  match s.prs.run with
  | none => (s, [])
  | some r =>
    if r.blocking then (s, [.endRun .blocked])
    else
      match r.phase with
      | .delay => (s, [.enterPhase .move])
      | .move => (s, [.enterPhase .dwell])
      | .dwell =>
        let lastStep := ((s.prs.program.map fun g => decide (g.steps.length ≤ r.step + 1)).getD true)
        if lastStep then (s, [.endRun .pruned])
        else if r.halting then (s, [.endRun .skipped])
        else (s.setRun (some { r with step := r.step + 1, timer := none }), [.enterPhase .delay])

/-- The run ends with an outcome: its record withdrawn, the outcome set, a halt completed, ONCE disarmed, a rest after
ABANDONED and BLOCKED, the next candidate considered, in this order (R134, R137, R140, R146, log 69). -/
def prsEndRun (o : Outcome) (s : State) : State × List Work :=
  match s.prs.run with
  | none => (s, [])
  | some r =>
    let once := (s.prs.program.any fun g => g.mode == .once)
    let s' : State :=
      { s with prs := { s.prs with run := none, cand := none, armed := s.prs.armed && !once } }
    (s', [.withdraw .pruner, .outcome r.trunk o] ++ (if r.halting then [.haltDone] else []) ++
         (if once then [.skipAll] else []) ++ (if o == .abandoned || o == .blocked then [.rest] else []) ++ [.consider])

/-- The halt completes: DISARMED, the other claims SKIPPED, a rest commanded (R146). -/
def prsHaltDone (s : State) : State × List Work :=
  ({ s with prs := { s.prs with armed := false } }, [.skipAll, .rest])

/-- STU's answer on a step: admitted it is issued, refused it is DEFERRED under STEP_WAIT; a later grant is used only by
a DEFERRED step of a RUNNING pass whose run carries no ending mark (R142). -/
def prsAnswer (a : Answer) (s : State) : State × List Work :=
  match a, s.prs.run with
  | .admitted, some r =>
    if s.stu.status .pruner != some .granted then (s, [])
    else
      match r.phase == .move && s.running && !r.suspended && !(r.deferred && (r.blocking || r.halting)),
            s.prs.step r with
      | true, some st =>
        (s.setRun (some { r with deferred := false, stepWait := none }), [.issue st.target])
      | _, _ => (s, [.withdraw .pruner])
  | .admitted, none => (s, [.withdraw .pruner])
  | .refused, some r =>
    if r.phase == .move && !r.deferred && s.stu.status .pruner == some .waiting then
      (s.setRun (some { r with deferred := true, stepWait := some (s.time.now + s.profile.stepWait.toNat) }), [])
    else (s, [])
  | .refused, none => (s, [])

/-- A head move has completed: the MOVE of a step whose targets it was ends; the candidate is considered (R139, R142). A head
that has been sent on meanwhile, as by the grant of a DEFERRED step, is not AT_TARGET and ends no MOVE. -/
def prsHeadDone (s : State) : State × List Work :=
  match s.prs.run with
  | some r =>
    if s.headNow.state == .atTarget && r.phase == .move && !r.deferred && !r.suspended &&
        (s.prs.step r).any fun st => st.target == s.headNow.issued
    then (s, [.phaseEnd]) else (s, [])
  | none => (s, [.consider])

/-- The PRUNER cursor's effective permission: other than OPEN it marks a run BLOCKING, a suspended one too (log 29), and ends it
at once for a DEFERRED step; the candidate is considered (R139, R144). -/
def prsPermission (s : State) : State × List Work :=
  match s.prs.run with
  | some r =>
    if s.permits .pruner then (s, [])
    else
      let s' := s.setRun (some { r with blocking := true })
      if r.deferred then (s', [.endRun .blocked]) else (s', [])
  | none => (s, [.consider])

/-! ### The pruner in the pass (R147 to R150) -/

/-- A suspension: the step abandoned and the context kept, its phase shown as DELAY (log 54), or a HALTING run ended SKIPPED,
one that is BLOCKING too (log 21); a rest commanded (R148). -/
def prsStop (s : State) : State × List Work :=
  match s.prs.run with
  | some r =>
    if r.halting then (s, [.endRun .skipped])
    else
      (s.setRun (some { r with phase := .delay, timer := none, deferred := false, stepWait := none, blocking := false,
                               suspended := true }), [.withdraw .pruner, .rest])
  | none => (s, [.rest])

/-- The resume of a suspended run: MISSED, BLOCKED, or its step again from DELAY; without a run the candidate is
considered (R148). -/
def prsResume (s : State) : State × List Work :=
  match s.prs.run with
  | some r =>
    let passed := (s.ttr.find r.trunk).all fun t => decide (windowLatest s.profile t.pos < s.odu.rpc)
    if !r.suspended then (s, [])
    else if passed then (s, [.endRun .missed])
    else if !s.permits .pruner then (s, [.endRun .blocked])
    else (s.setRun (some { r with suspended := false }), [.enterPhase .delay])
  | none => (s, [.consider])

/-- The band stops: outside a RUNNING pass a rest is commanded (R137, R147). -/
def prsTrip (s : State) : State × List Work := (s, if s.running then [] else [.rest])

/-- FAULT joins the withheld set: in PASS a run ends ABANDONED and the other claims are SKIPPED; a rest is commanded
(R137, R150). -/
def prsFault (s : State) : State × List Work :=
  ({ s with prs := { s.prs with fault := true } },
   if s.inPass then (if s.prs.run.isSome then [.endRun .abandoned] else []) ++ [.skipAll, .rest] else [.rest])

/-- The end of the pass, or PRUNER dropped: no run, no record, the head to rest. A run so ended disarms the tool in ONCE
mode and completes a halt (R134, R146), and the claims left are the Trunk Tracker's to clear (R62, log 49). At the end of a
pass FAULT is removed and after code 3 the physical head is taken up again (R149, R150, R151). -/
def prsEnd (dropped : Bool) (s : State) : State × List Work :=
  let once := s.prs.program.any fun g => g.mode == .once
  let disarms := s.prs.run.any fun r => r.halting || once
  let p : Prs := { s.prs with run := none, cand := none, armed := s.prs.armed && !disarms }
  if dropped then ({ s with prs := p }, [.withdraw .pruner, .rest])
  else
    let wasSim := s.psc.pass.any fun r => r.rehearsal == 3
    let h := s.prs.head
    let atRest := h.state == .atTarget && h.confirmed == Pair.rest
    ({ s with prs := { p with fault := false, simHead := Head.simRest } },
     [.withdraw .pruner] ++
     if wasSim then (if h.state == .unplaced || atRest then [] else [.issue Pair.rest]) else [.rest])

end Sys2Proof.Machine
end

