-- ==== Sys2Proof/Machine/Psc.lean ====
section
/-! DEFINITION. The Pass Controller's hand-offs: suspension and the end of a pass (spec 05). -/

namespace Sys2Proof.Machine

def State.setPass (s : State) (p : PassRecord) : State := { s with psc := { s.psc with pass := some p } }

/-- A suspension event applies in a SUSPENDED pass (Table 5-5). -/
def Suspension.replaces : Suspension → Bool
  | .trip => true
  | .barred => true
  | .host => true
  | .logHalt => true
  | .reverse => false
  | .hostSilence => false

/-- A suspension event (R95, R96): a RUNNING pass becomes SUSPENDED and the tool blocks are told, WSQ, PRS, SPG in this order
(log 42); a SUSPENDED one takes the new cause. -/
def pscSuspend (c : Suspension) (s : State) : State × List Work :=
  match s.inPass, s.psc.pass with
  | true, some p =>
    if p.suspension.isNone then
      (s.setPass { p with suspension := some c, suspendedAt := some s.odu.rpc,
                          suspensions := bump Config.count16Max p.suspensions },
       [.weederStop, .prunerStop, .sprayStop])
    else if c.replaces then (s.setPass { p with suspension := some c }, [])
    else (s, [])
  | _, _ => (s, [])

/-- The pass record becomes the last pass record (R90). -/
def pscEnd (r : EndReason) (s : State) : State × List Work :=
  match s.psc.pass with
  | some p => ({ s with psc := { s.psc with pass := none, lastPass := some ⟨p, r⟩ } }, [])
  | none => (s, [])

/-- The spray fields leave the pass record with SPRAY (R103). -/
def pscDropFields (s : State) : State × List Work :=
  match s.psc.pass with
  | some p => (s.setPass { p with spray := none }, [])
  | none => (s, [])

end Sys2Proof.Machine
end

