-- ==== Sys2Proof/Machine/Spg.lean ====
section
/-! DEFINITION. The Spray Gate (spec 08). -/

namespace Sys2Proof.Machine

/-! ### Section decisions (R154 to R157) -/

/-- The terms of R154 that do not depend on the section, and the sections selected and in the mask. -/
structure SprayTerms where
  running : Bool
  selected : Sections
  mask : Sections
  permission : Option Permission
  speed : Bool
  band : Bool
  tank : Bool
  notHalted : Bool
  reserved : Bool
deriving DecidableEq, Repr

def State.sprayTerms (s : State) : SprayTerms :=
  { running := s.running && s.selected .spray
    selected := ((s.psc.pass.bind fun p => p.spray).map fun f => f.sections).getD (Six.all false)
    mask := ((s.mpu.cursorBay (.tool .spray)).map fun b => b.mask).getD (Six.all false)
    permission := s.permission .spray
    speed := decide (s.profile.sprayMinSpeed ≤ s.odu.speed)
    band := !s.stu.band.stops
    tank := s.spg.tank.any fun t => decide (0 < t.quantity)
    notHalted := !s.lgs.halted
    reserved := s.spg.reserved }

/-- A section's state: OPEN, or CLOSED with the first failing term of Table 8-2 (R154). -/
def SprayTerms.state (t : SprayTerms) (selected inMask : Bool) : Section :=
  if !t.running then .closed .notRunning
  else if !selected then .closed .notSelected
  else if !inMask then .closed .notInMask
  else if t.permission != some .opened then .closed .permission
  else if !t.speed then .closed .speed
  else if !t.band then .closed .band
  else if !t.tank then .closed .tank
  else if !t.notHalted then .closed .logHalt
  else if !t.reserved then .closed .reservation
  else .opened

def SprayTerms.sections (t : SprayTerms) : Six Section := Six.zip t.state t.selected t.mask

/-- A permitted section that is CLOSED, the states that mark the open record PARTIAL (R156, Table 8-2). -/
def Section.isPartial : Section → Bool
  | .opened => false
  | .closed .notRunning => false
  | .closed .notSelected => false
  | .closed .notInMask => false
  | .closed .permission => false
  | .closed .speed => true
  | .closed .band => true
  | .closed .tank => true
  | .closed .logHalt => true
  | .closed .reservation => true

/-- The marks that a decision leaves on the open record (R156, R157, R166). -/
def OpenRecord.decided (r : OpenRecord) (secs : Six Section) (confirmedBay : Bool) : OpenRecord :=
  let opened := secs.map Section.isOpen
  { r with opened := Six.zip (fun a b => a || b) r.opened opened
           flags := { r.flags with partialMark := r.flags.partialMark || (secs.map Section.isPartial).any
                                   tankEmpty := r.flags.tankEmpty || (secs.map fun x => x == .closed .tank).any
                                   confirmed := r.flags.confirmed || (opened.any && confirmedBay) } }

/-- SPRAY code CONFIRM with its CONFIRMED flag set (R157). -/
def Bay.sprayConfirmed (b : Bay) : Bool := b.spray == .confirm && b.confirmed.spray

/-- All six sections decided afresh; a permitted section that fails only on RESERVATION first seeks it; AWAIT_CONFIRM with
every other term holding but the reservation puts an act query (R155, R157, log 18). -/
def spgDecide (s : State) : State × List Work :=
  let t := s.sprayTerms
  let secs := t.sections
  let wants := (secs.map fun x => x == .closed .reservation).any
  if wants && (s.spg.openRec.any fun r => !r.roomWait) then (s, [.seek])
  else
    let conf := (s.mpu.cursorBay (.tool .spray)).any Bay.sprayConfirmed
    let query :=
      t.permission == some .awaitConfirm &&
        (({ t with permission := some .opened, reserved := true } : SprayTerms).sections.map Section.isOpen).any
    ({ s with spg := { s.spg with sections := secs, openRec := s.spg.openRec.map fun r => r.decided secs conf } },
     if query then [.actQuery .spray] else [])

/-! ### Flow (R160 to R163) -/

/-- A millilitre can be taken off: the record holds the reservation, the log is not halted, the accumulator holds FLOW_K, and
the counts that would rise are below their highest value (R160, log 39). -/
def State.canCharge (s : State) (isOpen : Bool) (r : OpenRecord) (t : Tank) : Bool :=
  s.spg.reserved && !s.lgs.halted && decide (Spg.flowUnit s.profile ≤ s.spg.acc) &&
    decide ((if isOpen then r.volOpen else r.volClosed) < Config.count32Max) &&
    (decide (0 < t.quantity) || decide (s.spg.overrunVolume < Config.count32Max))

/-- One millilitre taken off: to vol_open while a section counts as open and to vol_closed otherwise, out of the tank or to the
overrun counter; with what SPG reports of it (R160 to R163), the tank's reports and the decision before SPRAY_LEAK, an order
that R162 and R163 do not give (log 67). -/
def State.charged (s : State) (isOpen : Bool) (r : OpenRecord) (t : Tank) : State × List Work :=
  let r1 : OpenRecord := if isOpen then { r with volOpen := r.volOpen + 1 } else { r with volClosed := r.volClosed + 1 }
  let leaks := !r1.leak && decide (s.profile.leakLimit ≤ (r1.volClosed : Int)) && !isOpen
  let r2 := { r1 with leak := r1.leak || leaks
                      flags := { r1.flags with tankEmpty := r1.flags.tankEmpty || t.quantity == 0 } }
  let overrun := if t.quantity = 0 then s.spg.overrunVolume + 1 else s.spg.overrunVolume
  let sections := ((s.psc.pass.bind fun p => p.spray).map fun f => f.sections).getD (Six.all false)
  ({ s with spg :=
      { s.spg with acc := s.spg.acc - Spg.flowUnit s.profile, openRec := some r2
                   tank := some { t with quantity := t.quantity - 1 }, overrunVolume := overrun } },
   (if 0 < t.quantity then [.tankReport (t.quantity - 1)] else []) ++
   (if t.quantity ≤ 1 then [.occur .tankEmpty (.tankEmpty r.bay s.odu.rpc overrun)] else []) ++
   (if t.quantity = 1 then [.decide] else []) ++
   (if leaks then [.occur .sprayLeak (.sprayLeak r.bay r2.volClosed sections)] else []))

/-- One millilitre taken off the accumulator of an open record, where it can be (R160). -/
def State.charge (isOpen : Bool) (s : State) : Option (State × List Work) :=
  match s.spg.openRec, s.spg.tank with
  | some r, some t => if s.canCharge isOpen r t then some (s.charged isOpen r t) else none
  | _, _ => none

/-- The millilitres of a pulse, one at a time, each charged by the sections as they then stand (R160, R161). -/
def spgTakeOff (s : State) : State × List Work :=
  match s.charge s.openSections.any with
  | some (s', works) => (s', works ++ [.takeOff])
  | none => (s, [])

/-- At most `n` millilitres of the pending volume taken off together at a grant, all to vol_closed, with the reports of them in
their order (R160). -/
def State.chargePending : Nat → State → State × List Work
  | 0, s => (s, [])
  | n + 1, s =>
    match s.charge false with
    | some (s', works) =>
      let rest := State.chargePending n s'
      (rest.1, works ++ rest.2)
    | none => (s, [])

/-! ### The reservation (R158, R159) -/

/-- The reservation granted: the whole pending volume is taken off before anything that its reports bring about, so before any
section opens; then the sections are decided (R158, R160, log 62). -/
def spgGrant (s : State) : State × List Work :=
  let held : State := { s with spg := { s.spg with reserved := true } }
  let taken := held.chargePending (s.spg.acc / Spg.flowUnit s.profile)
  (taken.1, taken.2 ++ [.decide])

/-- The reservation sought: granted, or refused with LOG_FULL and the room-wait mark (R158, R159). -/
def spgSeek (s : State) : State × List Work :=
  match s.spg.openRec with
  | none => (s, [])
  | some r =>
    if s.spg.reserved || r.roomWait || s.lgs.halted then (s, [])
    else if s.grantTest then spgGrant s
    else
      ({ s with spg := { s.spg with openRec := some { r with roomWait := true } } },
       [.occur .logFull (.logFull r.bay s.lgs.staging.length s.lgs.unreleased s.lgs.usable), .decide])

/-- The accumulator at FLOW_K or more with an open record that holds no reservation seeks it (R160). -/
def spgSeekForFlow (s : State) : State × List Work :=
  (s, if Spg.flowUnit s.profile ≤ s.spg.acc then [.seek] else [])

/-- A room report clears the room-wait mark; the sections are decided and the cases of R158 asked again (R159). -/
def spgRoomReport (s : State) : State × List Work :=
  match s.spg.openRec with
  | some r =>
    if r.roomWait then
      ({ s with spg := { s.spg with openRec := some { r with roomWait := false } } }, [.decide, .seekForFlow])
    else (s, [])
  | none => (s, [])

/-! ### The open record (R165 to R169) -/

/-- A record opened for the SPRAY cursor's resolution (R165). -/
def State.newRecord (s : State) : OpenRecord :=
  let c := s.mpu.spray
  let bay := match c.res with
    | .bay i => some i
    | .miss => none
    | .none => none
  { bay, entry := c.pos.getD 0, opened := Six.all false, volOpen := 0, volClosed := 0, openLength := 0
    flags := { interrupted := false, partialMark := false, rehearsal := decide (1 ≤ s.rehearsal), mapMiss := bay.isNone
               confirmed := false, tankEmpty := false, rateDeviation := false }
    roomWait := false, leak := false }

/-- An entry of the SPRAY cursor: with SPRAY selected a record opens; the sections are decided (R155, R165). -/
def spgEntry (s : State) : State × List Work :=
  if s.selected .spray then ({ s with spg := { s.spg with openRec := some s.newRecord } }, [.decide])
  else (s, [.decide])

/-- The rate of a record in L/ha, rounded half up, absent for an open length of 0 (R169). -/
def sprayRate (volOpen openLength spacing : Nat) : Option Nat :=
  let d := openLength * spacing
  if d = 0 then none else some (min Config.count16Max ((volOpen * 10000000 + d / 2) / d))

/-- RATE_DEVIATION (R169). -/
def rateDeviates (p : Profile) (rate target : Nat) : Bool :=
  decide (p.rateTol * target < ((rate : Int) - target).natAbs * 100)

/-- The spray record of an open record that closes (R167, R168, R169); the Log Store gives its number at staging. -/
def State.closed (s : State) (r : OpenRecord) : SprayRecord :=
  let f := s.psc.pass.bind fun p => p.spray
  let rate := sprayRate r.volOpen r.openLength ((f.map fun x => x.spacing).getD 0)
  let deviates := rate.any fun n => rateDeviates s.profile n ((f.map fun x => x.rate).getD 0)
  { seq := s.lgs.nextSeq, bay := r.bay, entry := r.entry, exit := s.mpu.spray.pos.getD 0, opened := r.opened
    flags := { r.flags with rateDeviation := deviates }, volOpen := r.volOpen, volClosed := r.volClosed
    openLength := r.openLength, row := (s.psc.pass.map fun p => p.row).getD 0
    passId := (s.psc.pass.map fun p => p.passId).getD 0, product := (f.map fun x => x.product).getD 0
    slot := s.lgs.currentSlot.getD 0, time := s.mlk.time, rate }

/-- The open record closed: with the reservation it is staged, without it discarded (R167). -/
def spgClose (s : State) : State × List Work :=
  match s.spg.openRec with
  | none => (s, [])
  | some r =>
    ({ s with spg := { s.spg with openRec := none, reserved := false } },
     if s.spg.reserved then [.stage (s.closed r)] else [])

/-- A suspension marks the open record INTERRUPTED and closes every section (R170). -/
def spgStop (s : State) : State × List Work :=
  ({ s with spg := { s.spg with
      openRec := s.spg.openRec.map fun r => { r with flags := { r.flags with interrupted := true } } } }, [.decide])

end Sys2Proof.Machine
end

