-- ==== Sys2Proof/Machine/Wsq.lean ====
section
/-! DEFINITION. The Weeder Sequencer (spec 06). -/

namespace Sys2Proof.Machine

/-- A keep-out zone (R110). -/
structure Zone where
  start : Int
  stop : Int
deriving DecidableEq, Repr

/-- The zone of a capture position, from the profile values in force (R110). -/
def zoneOf (p : Profile) (pos : Nat) : Zone :=
  ⟨pos + p.bladeLag - p.clearBefore, pos + p.bladeLag + p.clearAfter⟩

/-- The cleared-to position raised, never lowered (R116). -/
def Wsq.raiseCleared (w : Wsq) (pos : Int) : Wsq :=
  { w with clearedTo := some (match w.clearedTo with
      | some c => max c pos
      | none => pos) }

/-- The cleared-to position raised past the last accepted capture (R116). -/
def State.raisePastCaptures (s : State) : Wsq :=
  match s.ttr.spacing with
  | some p => s.wsq.raiseCleared (p + s.profile.bladeLag + s.profile.clearAfter)
  | none => s.wsq

/-- A DEFERRED EXTEND leaves the queue (R115, R118). -/
def Wsq.dropDeferred (w : Wsq) : Wsq := { w with queue := w.queue.filter fun e => !e.deferred }

/-! ### Drive condition and arm -/

/-- The drive condition evaluated (R117, Table 6-3, R118); a withdrawal comes before the arm moves (log 69). -/
def wsqDrive (s : State) : State × List Work :=
  if !s.drives then (s, [])
  else
    let t := s.driveTerms
    if t.none then
      (s, if s.armNow == some .retracted && s.stu.weederAdm.isNone then [.ask .weeder Pair.rest] else [])
    else
      let drop := s.stu.weederAdm.isSome
      let s' : State := if drop then { s with wsq := s.wsq.dropDeferred } else s
      (s', (if drop then [.withdraw .weeder] else []) ++ (if armIsOut s.armNow then [.arm .retracting] else []) ++
           if t.onlyPermission && s.permission .weeder == some .awaitConfirm then [.actQuery .weeder] else [])

/-- STU's answer: an admitted request drives out if the terms still hold and is withdrawn otherwise, a DEFERRED entry leaving
the queue either way; a removed record drops it too (R118, R126). -/
def wsqAnswer (a : Answer) (s : State) : State × List Work :=
  match a with
  | .admitted =>
    if s.stu.weederAdm != some .granted then (s, [])
    else if s.drives && s.driveTerms.none && s.armNow == some .retracted then
      ({ s with wsq := s.wsq.dropDeferred }, [.arm .extending])
    else ({ s with wsq := s.wsq.dropDeferred }, [.withdraw .weeder])
  | .refused => if s.stu.weederAdm.isNone then ({ s with wsq := s.wsq.dropDeferred }, []) else (s, [])

/-- A deadline of ARM_TIME from now (Table 6-4). -/
def State.armDeadline (s : State) : Option Nat := some (s.time.now + s.profile.armTime.toNat)

/-- The arm enters a state: outputs follow the state, the deadline starts, the new state is reported, and a switch that
already reads asserted completes it (R121, R122, R123), in this order (log 69); ARM_TIMEOUT carries the ARM_TIME in force at
the expiry (log 47). Under code 3 the simulated arm enters it (R129). -/
def wsqArm (st : ArmState) (s : State) : State × List Work :=
  if !s.drives then (s, [])
  else if s.simMotion then
    let due := some (s.time.now + Config.simulatedMove)
    match st with
    | .extending => ({ s with wsq := { s.wsq with simArm := st, simDue := due } }, [.moveStarted .weeder, .reload .weeder])
    | .retracting => ({ s with wsq := { s.wsq with simArm := st, simDue := due } }, [])
    | .retracted => ({ s with wsq := { s.wsq with simArm := st, simDue := none } }, [.drive])
    | .extended | .stalled => ({ s with wsq := { s.wsq with simArm := st, simDue := none } }, [])
  else
    let enter := fun d => { s with wsq := { s.wsq with arm := some st, deadline := d } }
    match st with
    | .extending =>
      (enter s.armDeadline, [.moveStarted .weeder, .reload .weeder] ++ if s.pins.armExt then [.arm .extended] else [])
    | .extended => (enter none, [.reload .weeder])
    | .retracting => (enter s.armDeadline, [.reload .weeder] ++ if s.pins.armRet then [.arm .retracted] else [])
    | .retracted => (enter none, [.reload .weeder, .drive])
    | .stalled =>
      (enter none,
       [.reload .weeder, .weederWithheld true,
        .occur .armTimeout (.minor (.arm (s.wsq.arm.getD .stalled) s.odu.rpc s.profile.armTime))] ++
       if s.pins.armRet then [.arm .retracted] else [])

/-- A reason joins the withheld set; a set that becomes non-empty in PASS drops every weeder claim (R120). -/
def wsqWithheld (stall : Bool) (s : State) : State × List Work :=
  let was := s.wsq.withheld
  let w : Wsq := if stall then { s.wsq with stall := true } else { s.wsq with fault := true }
  if s.inPass && !was then
    ({ s with wsq := { w with queue := [], intent := .armIn } }, [.trunksDrop .weeder, .withdraw .weeder, .drive])
  else ({ s with wsq := w }, [.drive])

/-! ### The queue -/

/-- The next WAITING entry whose trigger RPC has reached (R115). -/
def State.dueAction (s : State) : Option Action :=
  s.wsq.queue.find? fun e => !e.deferred && decide (e.trigger ≤ s.odu.rpc)

/-- Due entries fire in a RUNNING pass, in queue order, each whole before the next (R115). -/
def wsqFire (s : State) : State × List Work :=
  match s.running, s.dueAction with
  | true, some e =>
    match e.kind with
    | .retract =>
      ({ s with wsq := { s.wsq with queue := s.wsq.queue.filter fun x => !(x == e) && !x.deferred, intent := .armIn } },
       [.drive, .lift, .fire])
    | .extend =>
      let w := s.wsq.raiseCleared e.trigger
      ({ s with wsq := { w with queue := w.queue.map fun x => if x == e then { x with deferred := true } else x
                                intent := .armOut } },
       [.clearWeeder e.trunk, .drive, .fireEnd e.trunk, .lift, .fire])
  | _, _ => (s, [])

/-- A fired EXTEND stays DEFERRED while its admission record waits, and leaves the queue otherwise (R115, R118). -/
def wsqFireEnd (number : Nat) (s : State) : State × List Work :=
  if s.stu.weederAdm == some .waiting then (s, [])
  else ({ s with wsq := { s.wsq with queue := s.wsq.queue.filter fun e => !(e.deferred && e.trunk == number) } }, [])

/-- An IMMEDIATE RETRACT fires: the intent becomes IN and a DEFERRED EXTEND is dropped (R115). -/
def wsqImmediate (s : State) : State × List Work :=
  ({ s with wsq := { s.wsq.dropDeferred with intent := .armIn } }, [.drive, .lift])

/-- QUEUE is lifted when four places are free in a RUNNING pass (R114). -/
def wsqLift (s : State) : State × List Work :=
  if s.wsq.holdQueue && s.running && decide (s.wsq.queue.length + 4 ≤ Config.queuePlaces) then (s, [.rebuild])
  else (s, [])

/-- A full queue (R114). -/
def wsqQueueFull (number : Option Nat) (s : State) : State × List Work :=
  let n := s.wsq.queue.length
  let queue := if n < Config.queuePlaces then s.wsq.queue else s.wsq.queue.dropLast
  ({ s with wsq := { s.wsq with queue, holdQueue := true } },
   [.occur .weederQueueFull (.queueFull number n), .immediate])

/-- A new trunk record queued: merge, retract, extend; or the queue is full (R112). -/
def wsqQueueTrunk (number pos : Nat) (s : State) : State × List Work :=
  if !s.running || s.wsq.holdQueue then (s, [])
  else
    let z := zoneOf s.profile pos
    let merged := s.wsq.queue.getLast?.filter fun e => e.kind == .extend && !e.deferred && decide (z.start ≤ e.trigger)
    let behind := decide (z.start ≤ s.odu.rpc)
    let adds := if merged.isSome || behind then 1 else 2
    if Config.queuePlaces < s.wsq.queue.length + adds then (s, [.queueFull (some number)])
    else
      let extend : Action := ⟨.extend, z.stop, number, false⟩
      match merged with
      | some e => ({ s with wsq := { s.wsq with queue := s.wsq.queue.dropLast ++ [extend] } }, [.clearWeeder e.trunk])
      | none =>
        if behind then ({ s with wsq := { s.wsq with queue := s.wsq.queue ++ [extend] } }, [.immediate])
        else
          ({ s with wsq := { s.wsq with queue := s.wsq.queue ++ [⟨.retract, z.start, number, false⟩, extend] } }, [])

/-- A merged stretch of a rebuild: the trunk of its first zone, that of its last, and those merged into later ones. -/
structure Stretch where
  start : Int
  stop : Int
  first : Nat
  last : Nat
  merged : List Nat
deriving DecidableEq, Repr

/-- The zones kept by a rebuild, merged in list order (R113); the list is newest first. -/
def addZone (acc : List Stretch) (number : Nat) (z : Zone) : List Stretch :=
  match acc with
  | st :: rest =>
    if z.start ≤ st.stop then { st with stop := z.stop, last := number, merged := st.merged ++ [st.last] } :: rest
    else ⟨z.start, z.stop, number, number, []⟩ :: acc
  | [] => [⟨z.start, z.stop, number, number, []⟩]

/-- The entries of a stretch (R113). -/
def Stretch.entries (st : Stretch) (rpc : Nat) : List Action :=
  if st.start ≤ rpc then [⟨.extend, st.stop, st.last, false⟩]
  else [⟨.retract, st.start, st.first, false⟩, ⟨.extend, st.stop, st.last, false⟩]

/-- The stretches that fit whole, in order, with the first that does not (R113). -/
def fitStretches (rpc : Nat) : Nat → List Stretch → List Stretch × Option Stretch
  | _, [] => ([], none)
  | room, st :: rest =>
    let n := (st.entries rpc).length
    if n ≤ room then
      let (fit, left) := fitStretches rpc (room - n) rest
      (st :: fit, left)
    else ([], some st)

/-- The rebuild from the trunk list (R113, R114, log 19): claims cleared, WEEDER_QUEUE_FULL, the drive condition (log 69). -/
def wsqRebuild (s : State) : State × List Work :=
  let rpc := s.odu.rpc
  let claimed := s.ttr.trunks.filter fun t => t.weederClaim
  let behind := claimed.filter fun t => decide ((zoneOf s.profile t.pos).stop ≤ rpc)
  let ahead := claimed.filter fun t => decide ((rpc : Int) < (zoneOf s.profile t.pos).stop)
  let stretches := (ahead.foldl (fun acc t => addZone acc t.number (zoneOf s.profile t.pos)) []).reverse
  let (fit, left) := fitStretches rpc Config.queuePlaces stretches
  let queue := fit.flatMap fun st => st.entries rpc
  let w := behind.foldl (fun w t => Wsq.raiseCleared w (zoneOf s.profile t.pos).stop) s.wsq
  let inside := stretches.any fun st => decide (st.start ≤ (rpc : Int))
  let s' : State :=
    { s with wsq := { w with queue, holdQueue := left.isSome, intent := if inside then .armIn else .armOut } }
  (s',
   (behind.map fun t => Work.clearWeeder t.number) ++ (fit.flatMap fun st => st.merged.map Work.clearWeeder) ++
   (match left with
    | some st => [.occur .weederQueueFull (.queueFull (some st.first) queue.length)]
    | none => []) ++ [.drive])

/-! ### The weeder in the pass -/

/-- The band enters TRIPPED or LATCHED: an IMMEDIATE RETRACT in a RUNNING pass (R126), which a full queue turns into a full
queue's report without a trunk number (R114, log 46). -/
def wsqTrip (s : State) : State × List Work :=
  if !s.running then (s, [])
  else if s.wsq.queue.length < Config.queuePlaces then (s, [.immediate]) else (s, [.queueFull none])

/-- A suspension, or WEEDER dropped: the queue flushed with its claims kept, the record withdrawn, the arm driven in (R127,
R128, log 69). -/
def wsqStop (s : State) : State × List Work :=
  ({ s with wsq := { s.wsq with queue := [], intent := .armIn } }, [.withdraw .weeder, .drive])

/-- The end of the pass; after code 3 the physical arm is taken up again (R127, R129). -/
def wsqEnd (s : State) : State × List Work :=
  let wasSim := s.psc.pass.any fun p => p.rehearsal == 3
  let w : Wsq :=
    { s.wsq with queue := [], intent := .armIn, clearedTo := none, holdOverflow := false, holdQueue := false,
                 fault := false, simArm := .retracted, simDue := none }
  ({ s with wsq := w },
   [.withdraw .weeder] ++
   if wasSim then (if s.wsq.arm == some .retracted then [] else [.arm .retracting])
   else if armIsOut s.wsq.arm then [.arm .retracting] else [])

/-- The list has overflowed, or has room again (R116, R119). -/
def wsqOverflow (full : Bool) (s : State) : State × List Work :=
  if full then ({ s with wsq := { s.wsq with holdOverflow := true } }, [.drive])
  else if s.wsq.holdOverflow then
    ({ s with wsq := { s.raisePastCaptures with holdOverflow := false } }, [.drive])
  else (s, [])

end Sys2Proof.Machine
end

