-- ==== Sys2Proof/Machine/Cascade.lean ====
section
/-! DEFINITION. Every hand-off given to its taker, and the hand-offs of one step carried out, each whole before the next. -/

namespace Sys2Proof.Machine


/-- A hand-off taken by its block. -/
def handle (w : Work) (s : State) : State × List Work :=
  match w with
  | .occur f d => cduOccur f d s
  | .major c o => cduMajor c o s
  | .majorFlag c o m => cduMajorFlag c o m s
  | .enterLockout => cduLockout s
  | .compute c => stuCompute c s
  | .takeResult => stuTakeResult s
  | .ceiling => stuCeiling s
  | .evalWaiting => stuEvalWaiting s
  | .evalOne r => stuEvaluate false r s
  | .trip c => stuTrip c s
  | .bandGiven => stuBandGiven s
  | .recover => stuRecover s
  | .reload i => stuReload i s
  | .tankReport q => stuTankReport q s
  | .ask r p => stuAsk r p s
  | .withdraw r => stuWithdraw r s
  | .moveStarted r => stuMoveStarted r s
  | .answer .weeder a => wsqAnswer a s
  | .answer .pruner a => prsAnswer a s
  | .sensorFault => stuSensorFault s
  | .rpcChanged rose => oduRpcChanged rose s
  | .reverseTest rose => oduReverseTest rose s
  | .clearWeeder n => ttrClearWeeder n s
  | .purge => ttrPurge s
  | .trunksEnd => ttrEnd s
  | .trunksDrop t => ttrDrop t s
  | .mapMove => mpuMove s
  | .moveCursor c => mpuMoveCursor c s
  | .enter c r => mpuEnter c r s
  | .missTest t => mpuMissTest t s
  | .barredTest t => mpuBarredTest t s
  | .actQuery t => mpuActQuery t s
  | .permission .weeder => wsqDrive s
  | .permission .pruner => prsPermission s
  | .permission .spray => spgDecide s
  | .mapEnd => mpuEnd s
  | .suspend c => pscSuspend c s
  | .passEnd r => pscEnd r s
  | .dropSprayFields => pscDropFields s
  | .drive => wsqDrive s
  | .fire => wsqFire s
  | .fireEnd n => wsqFireEnd n s
  | .immediate => wsqImmediate s
  | .lift => wsqLift s
  | .rebuild => wsqRebuild s
  | .queueTrunk n p => wsqQueueTrunk n p s
  | .queueFull n => wsqQueueFull n s
  | .arm st => wsqArm st s
  | .weederWithheld stall => wsqWithheld stall s
  | .weederTrip => wsqTrip s
  | .weederStop => wsqStop s
  | .weederEnd => wsqEnd s
  | .overflow full => wsqOverflow full s
  | .issue p => prsIssue p s
  | .rest => prsRest s
  | .headDone => prsHeadDone s
  | .consider => prsConsider s
  | .startRun n => prsStartRun n s
  | .enterPhase p => prsEnterPhase p s
  | .phaseEnd => prsPhaseEnd s
  | .endRun o => prsEndRun o s
  | .outcome n o => prsOutcome n o s
  | .skipAll => prsSkipAll s
  | .haltDone => prsHaltDone s
  | .prunerTrip => prsTrip s
  | .prunerFault => prsFault s
  | .prunerStop => prsStop s
  | .prunerResume => prsResume s
  | .prunerEnd dropped => prsEnd dropped s
  | .trunkLost n p => prsTrunkLost n p s
  | .decide => spgDecide s
  | .seek => spgSeek s
  | .seekForFlow => spgSeekForFlow s
  | .takeOff => spgTakeOff s
  | .sprayEntry => spgEntry s
  | .closeRecord => spgClose s
  | .sprayStop => spgStop s
  | .roomReport => spgRoomReport s
  | .stage r => lgsStage r s
  | .arbiter => lgsArbiter s
  | .halt => lgsHalt s
  | .nearFull => lgsNearFull s
  | .startReports => lgsStartReports s
  | .startEndTest => mlkStartEndTest s
  | .startEnd => mlkStartEnd s
  | .profileTaken p n => stuProfile p n s
  | .frameIn f => mlkFrameIn f s
  | .discard r => mlkDiscard r s

/-- At most `n` hand-offs carried out, each whole before the next: what a block hands on stands before what was waiting.
Hand-offs left over set the mark `overrun` (log 17). -/
def run : Nat → List Work → State → State
  | _, [], s => s
  | 0, _ :: _, s => { s with overrun := true }
  | n + 1, w :: ws, s =>
    let r := handle w s
    run n (r.2 ++ ws) r.1

/-- The hand-offs of one step. -/
def cascade (ws : List Work) (s : State) : State := run Config.handOffBound ws s

/-- A part that is off stays as it is; a part that is on takes the event, and its pins follow (log 16). -/
def live (f : State → State) (s : State) : Host.Outcome State Fault Refusal :=
  .next (if s.powered then (f s).finish else s)

end Sys2Proof.Machine
end

