-- ==== Sys2Proof/Machine/Command.lean ====
section
/-! DEFINITION. How a command is taken, tested and answered: the part of R201 and R202 that every command shares. -/

namespace Sys2Proof.Machine

/-- What an accepted command does: the owning block's change, the hand-offs that follow, and the result its reply carries
once that work is done. -/
abbrev Accepted := State × List Work × (State → OkResult)

/-- The frame is the one the link takes next: the oldest held, or one that arrives while none is held (R201, log 5). -/
def State.takes (s : State) (f : Frame) : Bool :=
  match s.mlk.rxBuf with
  | g :: _ => g == f
  | [] => true

/-- The frame taken: the previous reply has been sent; the oldest frame leaves the buffer, and a frame that finds none held
has been received in the same step, which restarts the silence timer (R201, R203, log 5). -/
def takeFrame (_f : Frame) (s : State) : State :=
  let s' : State := { s with mlk := { s.mlk with tx := flushReplies s.mlk.tx } }
  match s'.mlk.rxBuf with
  | _ :: rest => { s' with mlk := { s'.mlk with rxBuf := rest } }
  | [] => s'.heard

/-- A command's row: the frame is taken and dealt with, or, while an older frame is held, received and held behind it, which
a fifth is not (R200, R201, log 5). -/
def serve (f : Frame) (act : State → State) : State → Host.Outcome State Fault Refusal :=
  live fun s =>
    if s.takes f then act (takeFrame f s)
    else if 120 < f.payload.length then s
    else cascade [.frameIn f] s

/-- The refusal by mode: BUSY in STARTUP, PARKED in PARKED, else WRONG_MODE (R201). -/
def modeReason : Mode → Reason
  | .startup => .busy
  | .parked => .parked
  | .idle => .wrongMode
  | .pass => .wrongMode
  | .lockout => .wrongMode

/-- A refused command gets its REFUSED frame and changes nothing else (R202). -/
def refuse (f : Frame) (r : Reason) (s : State) : State := s.send (.refused f.kind f.tag r)

/-- An accepted command: its work is done before its reply is handed on (R201, R202). -/
def accept (f : Frame) (a : Accepted) : State :=
  let s := cascade a.2.1 a.1
  s.send (.ok f.kind f.tag (a.2.2 s) 0)

/-- The tests of R201 in order: mode, length, the command's own. -/
def answer (f : Frame) (inMode : State → Bool) (lengthOk : Bool) (body : State → Except Reason Accepted) (s : State) :
    State :=
  if !inMode s then refuse f (modeReason s.mode) s
  else if !lengthOk then refuse f .badLength s
  else match body s with
    | .error r => refuse f r s
    | .ok a => accept f a

/-- A command: its frame taken, tested and answered (R201, R202). -/
def command (kind : Nat) (tag : Byte) (payload : List Byte) (inMode : State → Bool) (lengthOk : Bool)
    (body : State → Except Reason Accepted) : State → Host.Outcome State Fault Refusal :=
  let f : Frame := ⟨BitVec.ofNat 8 kind, tag, payload⟩
  serve f (answer f inMode lengthOk body)

/-- The modes of Table 11-1. -/
def State.inIdle (s : State) : Bool := s.mode == .idle

def State.inIdlePass (s : State) : Bool := s.mode == .idle || s.mode == .pass

def State.inLog (s : State) : Bool := s.mode == .idle || s.mode == .pass || s.mode == .lockout

def State.anyMode (_ : State) : Bool := true

/-- A command that changes no state and answers a result. -/
def reads (s : State) (r : OkResult) : Except Reason Accepted := .ok (s, [], fun _ => r)

end Sys2Proof.Machine
end

