-- ==== Sys2Proof/Machine/LinkCommands.lean ====
section
/-! DEFINITION. The commands of the Message Link and the Condition Unit: STATUS, RESET, SET_TIME, ACK_CONDITIONS,
SET_CONDITION_CLASS, PROFILE_WRITE, PROFILE_READ (spec 10, 11). -/

namespace Sys2Proof.Machine

/-- The result of STATUS (R204). -/
def State.statusReply (s : State) : StatusReply :=
  { mode := s.mode, phase := if s.mode == .startup then some s.mlk.phase else none, noProfile := s.noProfile
    profileWrite := s.lgs.profilePending, band := s.stu.band, sEff := s.sEff
    c := (s.stu.published.map fun p => p.c).getD 0, driveEn := s.permit
    running := if s.inPass then some s.running else none, lock := s.lock, storeBusy := s.lgs.busy
    lastResult := s.lgs.lastResult, halted := s.lgs.halted, flags := s.cdu.flags, alert := s.cdu.flags.alert
    time := s.mlk.time, silenceExpired := s.mlk.expired, lostNotices := s.mlk.lostNotices }

/-- STATUS, taken in every mode (R204). -/
def execStatus (tag : Byte) (payload : List Byte) : State → Host.Outcome State Fault Refusal :=
  command 0x01 tag payload State.anyMode payload.isEmpty fun s => reads s (.status s.statusReply)

/-- The state of the blocks after the RESET command, before the band machine takes its latest result again (R205 and the
reset tables of the chapters). -/
def State.resetBlocks (s : State) : State :=
  let latched := s.stu.band == .latched
  { s with
    mlk := { s.mlk with rxBuf := [], lostNotices := 0, expired := false }
    cdu := { s.cdu with flags := s.cdu.flags.clearAll }
    stu := { s.stu with weederAdm := none, prunerAdm := none, recovery := none
                        band := if latched then .latched else .normal
                        trip := if latched then s.stu.trip else none }
    mpu := { Mpu.boot with mapLock := s.mpu.mapLock && !s.pins.service }
    ttr := { s.ttr with trunks := [], overflowed := false }
    wsq := { s.wsq with queue := [], intent := .armIn, clearedTo := none, holdOverflow := false, holdQueue := false
                        simArm := .retracted, simDue := none }
    prs := { s.prs with run := none, cand := none, simHead := Head.simRest }
    spg := { s.spg with sections := Six.all (.closed .notRunning), reserved := false, openRec := none }
    psc := { s.psc with mode := .idle } }

/-- What the band machine does at the RESET command, after the items have returned to their sources (R24, R44, log 69). -/
def State.resetWorks (s : State) : List Work :=
  [.reload .weeder, .reload .head] ++
  (if s.stu.band == .latched then [] else if s.stu.lost then [.trip .sensorLost] else [.takeResult]) ++ [.ceiling, .decide]

/-- RESET: taken in IDLE and PARKED; the reply stands before the notices of its own effects (R205). -/
def execReset (tag : Byte) (payload : List Byte) : State → Host.Outcome State Fault Refusal :=
  let f : Frame := ⟨0x02#8, tag, payload⟩
  serve f fun s =>
    if s.mode == .startup then refuse f .busy s
    else if !(s.mode == .idle || s.mode == .parked) then refuse f .wrongMode s
    else if !payload.isEmpty then refuse f .badLength s
    else
      let s1 := cascade s.resetWorks s.resetBlocks
      let reply : TxItem := .ok f.kind tag (.reset s1.mode s1.stu.band s1.permit) 0
      { s1 with mlk := { s1.mlk with tx := s.mlk.tx ++ [reply] ++ s1.mlk.tx.drop s.mlk.tx.length } }

/-- SET_TIME (R204). -/
def execSetTime (tag : Byte) (payload : List Byte) : State → Host.Outcome State Fault Refusal :=
  command 0x05 tag payload State.inIdlePass (payload.length == 4) fun s =>
    .ok ({ s with mlk := { s.mlk with time := some (bigEndian payload) }
                  time := { s.time with secondAt := s.time.now } }, [], fun _ => .setTime (bigEndian payload))

/-- The flags of a set made CLEAR: bit n − 1 names flag n (R193, Table 11-8). -/
def Flags.ack (fs : Flags) (set : Nat) : Flags :=
  Flag.all.foldl (fun fs f => if set.testBit (f.number - 1) then fs.clear f else fs) fs

/-- ACK_CONDITIONS (R193). -/
def execAckConditions (tag : Byte) (payload : List Byte) : State → Host.Outcome State Fault Refusal :=
  command 0x06 tag payload State.inIdlePass (payload.length == 4) fun s =>
    let set := bigEndian payload
    if 2 ^ 25 ≤ set then .error .outOfRange
    else
      let flags := s.cdu.flags.ack set
      .ok ({ s with cdu := { s.cdu with flags } }, [], fun _ => .ack flags.setFlags flags.alert)

/-- SET_CONDITION_CLASS (R194). -/
def execSetConditionClass (tag : Byte) (payload : List Byte) : State → Host.Outcome State Fault Refusal :=
  command 0x07 tag payload State.inIdlePass (payload.length == 2) fun s =>
    match payload with
    | [n, c] =>
      match Flag.ofNumber n.toNat, FlagClass.ofCode c.toNat with
      | some f, some cls =>
        let v := s.cdu.flags.get f
        .ok ({ s with cdu := { s.cdu with flags := s.cdu.flags.put f { v with cls } } }, [],
             fun _ => .setClass f cls v.isSet)
      | _, _ => .error .outOfRange
    | _ => .error .badLength

/-- PROFILE_WRITE: a valid image joins the store arbiter's list (R207). -/
def execProfileWrite (tag : Byte) (payload : List Byte) : State → Host.Outcome State Fault Refusal :=
  command 0x08 tag payload State.inIdle (payload.length == 110) fun s =>
    if (Profile.ofImage payload).isNone then .error .outOfRange
    else if s.lgs.profilePending then .error .busy
    else
      let crc := crc16 payload
      .ok ({ s with lgs := { s.lgs with waiting := s.lgs.waiting ++ [.profile payload crc] } }, [.arbiter],
           fun _ => .profileWrite crc)

/-- PROFILE_READ (R207). -/
def execProfileRead (tag : Byte) (payload : List Byte) : State → Host.Outcome State Fault Refusal :=
  command 0x09 tag payload State.inIdlePass payload.isEmpty fun s =>
    reads s (.profileRead (!s.noProfile) s.noProfile s.lgs.profilePending s.profile.values)

/-- The command kinds of Table 11-1. -/
def commandKinds : List Nat :=
  [0x01, 0x02, 0x03, 0x04, 0x05, 0x06, 0x07, 0x08, 0x09, 0x10, 0x11, 0x12, 0x18, 0x19, 0x20, 0x21, 0x22, 0x23, 0x24, 0x25,
   0x26, 0x27, 0x30, 0x31, 0x32, 0x33, 0x34, 0x35, 0x40, 0x41, 0x48, 0x49, 0x4A, 0x4B, 0x50, 0x60, 0x61, 0x62, 0x63, 0x64]

/-- A taken frame whose KIND is no command kind is refused with UNKNOWN_KIND, in every mode; a command's own kind is no such
frame and changes nothing (R201). -/
def execUnknownKind (kind tag : Byte) (payload : List Byte) : State → Host.Outcome State Fault Refusal :=
  if commandKinds.contains kind.toNat then live fun s => s
  else
    let f : Frame := ⟨kind, tag, payload⟩
    serve f (refuse f .unknownKind)

end Sys2Proof.Machine
end

