-- ==== Sys2Proof/Machine/SensorEvents.lean ====
section
/-! DEFINITION. The events of the accelerometer, the encoder, the post sensor and the feeler (spec 01, 02, 03). -/

namespace Sys2Proof.Machine

/-- The clock moved on to the time at which a timer ends, never back (log 3). -/
def State.advance (s : State) (due : Nat) : State := { s with time := { s.time with now := max s.time.now due } }

/-- The sample period in use, in ms: a new SAMPLE_RATE counts from the next read on (R9, R10, log 51). -/
def State.samplePeriod (s : State) : Nat := samplePeriodOf s.stu.rate

/-- The ring after an arrival: in STARTUP the first arrival with a_z of 250 mg or more fills it, none before that (R12). -/
def Stu.arrive (u : Stu) (x : Sample) : Option Ring4 :=
  match u.ring with
  | some r => some (r.push x)
  | none => if supportLevel ≤ x.a.z then some ⟨x, x, x, x⟩ else none

/-- A plausible arrival: its averages are held, the episodes end, the timers restart (R13, R14, R15). -/
def Stu.plausible (u : Stu) (r : Ring4) (now : Nat) : Stu :=
  { u with ring := some r, held := some r.average, plausibleAt := now, stale := false, lost := false, implausible := false }

/-- A sample arrival (R11, R12, R13). -/
def State.takeSample (x : Sample) (s : State) : State :=
  match s.stu.arrive x with
  | none => s
  | some r =>
    if supportLevel ≤ r.average.z then cascade [.compute .arrival] { s with stu := s.stu.plausible r s.time.now }
    else { s with stu := { s.stu with ring := some r, implausible := true } }

/-- SAMPLE_PERIOD: the period that ends was measured with the rate in use, and the profile's rate holds from this read on
(R9); no reading is no arrival; every arrival before PROFILE_CHECK has ended is discarded (R10, R12). -/
def execSamplePeriod (reading : Option (Int × Int × Int)) : State → Host.Outcome State Fault Refusal :=
  live fun s =>
    let s1 := s.advance (s.time.sampleAt + s.samplePeriod)
    let s2 : State := { s1 with time := { s1.time with sampleAt := s1.time.now }
                                stu := { s1.stu with rate := s.profile.sampleRate } }
    match reading with
    | none => s2
    | some r => if s2.mode == .startup && s2.mlk.phase == .profileCheck then s2 else s2.takeSample (trimSample s2.profile r)

/-- The start of an episode: the published sample state follows it and a recovery timer stops (Table 1-5, R33). -/
def Stu.episode (u : Stu) : Stu :=
  let st : SampleState := if u.lost then .lost else .stale
  { u with published := u.published.map fun p => { p with sampleState := st }, recovery := none }

/-- STALE_TIMER_EXPIRY (R14). -/
def execStaleTimerExpiry : State → Host.Outcome State Fault Refusal :=
  live fun s =>
    if s.stu.stale then s
    else
      let s1 := s.advance (s.stu.plausibleAt + 3 * s.samplePeriod)
      cascade [.occur .sensorStale (.minor (.stale s.stu.rate s.stu.implausible))]
        { s1 with stu := ({ s.stu with stale := true } : Stu).episode }

/-- LOST_TIMER_EXPIRY; the stale episode always precedes it (R15), and SENSOR_LOST precedes the trip (log 69). -/
def execLostTimerExpiry : State → Host.Outcome State Fault Refusal :=
  live fun s =>
    if s.stu.lost || !s.stu.stale then s
    else
      let s1 := s.advance (s.stu.plausibleAt + Config.lostTime)
      cascade ([.occur .sensorLost (.sensorLost (s1.time.now - s.stu.plausibleAt))] ++
               if s.computed then [.trip .sensorLost] else [])
        { s1 with stu := ({ s.stu with lost := true } : Stu).episode }

/-- RECOVERY_EXPIRY (R34). -/
def execRecoveryExpiry : State → Host.Outcome State Fault Refusal :=
  live fun s =>
    match s.stu.recovery with
    | some start => cascade [.recover] (s.advance (start + s.profile.recoverTime.toNat))
    | none => s

/-- ENCODER_TRANSITION: the new phase pair, its pulse, the pitch it completes (R46, R47, R48). The pins take the pair also
while the part is off (log 6). -/
def execEncoderTransition (a b : Bool) (s0 : State) : Host.Outcome State Fault Refusal :=
  live (fun s =>
    let step := phaseStep s.odu.encA s.odu.encB a b
    let o : Odu := { s.odu with encA := a, encB := b }
    if step = 0 then { s with odu := o }
    else
      match o.pulse s.profile.prescale step with
      | (o', some rose) => cascade [.rpcChanged rose] { s with odu := o' }
      | (o', none) => { s with odu := o' }) { s0 with pins := { s0.pins with encA := a, encB := b } }

/-- SPEED_RECORD: the history takes RPC and the sections are decided (R49, R155). -/
def execSpeedRecord : State → Host.Outcome State Fault Refusal :=
  live fun s =>
    let s1 := s.advance (s.time.speedAt + 10)
    cascade [.decide]
      { s1 with time := { s1.time with speedAt := s1.time.now }
                odu := { s1.odu with history := s1.odu.rpc :: s1.odu.history.take 20 } }

/-- POST_CAPTURE, a capture in PASS alone (R53). -/
def execPostCapture : State → Host.Outcome State Fault Refusal :=
  live fun s =>
    if s.inPass then
      let r := oduPost s
      cascade r.2 r.1
    else s

/-- FEELER_CAPTURE, a capture in a pass with a cutting tool (R58). -/
def execFeelerCapture : State → Host.Outcome State Fault Refusal :=
  live fun s =>
    if s.selected .weeder || s.selected .pruner then
      let r := ttrCapture s
      cascade r.2 r.1
    else s

end Sys2Proof.Machine
end

