-- ==== Sys2Proof/Machine/LinkEvents.lean ====
section
/-! DEFINITION. The events of the Message Link, of KEY and of the CEIL pulse train (spec 02, 04, 11). -/

namespace Sys2Proof.Machine

/-- SILENCE_EXPIRY: one expiry per silence; in IDLE and PASS HOST_SILENCE is raised and then the Pass Controller told (R98,
R203, log 69). The time in its detail is that of the timer, so from the end of STARTUP when no frame has come since (log 73). -/
def execSilenceExpiry : State → Host.Outcome State Fault Refusal :=
  live fun s =>
    match s.mlk.silenceFrom with
    | some start =>
      if s.mlk.expired then s
      else
        let s1 := s.advance (start + s.profile.hostSilence.toNat)
        cascade
          (if s.drives then [.occur .hostSilence (.hostSilence s.mode (s1.time.now - start)), .suspend .hostSilence] else [])
          { s1 with mlk := { s1.mlk with expired := true } }
    | none => s

/-- SECONDS_TICK: a set time-of-day counter rises by 1 and wraps (R204). -/
def execSecondsTick : State → Host.Outcome State Fault Refusal :=
  live fun s =>
    let s1 := s.advance (s.time.secondAt + 1000)
    { s1 with time := { s1.time with secondAt := s1.time.now }
              mlk := { s1.mlk with time := s1.mlk.time.map fun t => (t + 1) % (Config.count32Max + 1) } }

/-- KEY_CHANGE; the lock state follows the key by itself (R84, R85). -/
def execKeyChange (service : Bool) (s : State) : Host.Outcome State Fault Refusal :=
  live (fun s => s) { s with pins := { s.pins with service } }

/-- The receiver's events given on, in order. -/
def State.received (s : State) (rx : Receiver) (works : List Work) : State :=
  cascade works { s with mlk := { s.mlk with rx } }

/-- VALID_FRAME: the frame in progress completes; it restarts the silence timer and is held or discarded (R200, R201). -/
def execValidFrame (kind tag : Byte) (payload : List Byte) : State → Host.Outcome State Fault Refusal :=
  live fun s =>
    if 120 < payload.length then s
    else ({ s with mlk := { s.mlk with lastByteAt := s.time.now } } : State).received .hunting [.frameIn ⟨kind, tag, payload⟩]

/-- FRAME_DISCARD: LINK_ERROR is raised and the receiver hunts again from the byte after the frame's SYNC (R200, log 24). -/
def execFrameDiscard (reason : DiscardReason) (last : Byte) : State → Host.Outcome State Fault Refusal :=
  live fun s =>
    let x := rescan reason last s.mlk.rx
    ({ s with mlk := { s.mlk with lastByteAt := s.time.now } } : State).received x.1 (.discard reason :: x.2.map RxEvent.work)

/-- FRAME_GAP_TIMEOUT, in a frame alone (R200). -/
def execFrameGapTimeout : State → Host.Outcome State Fault Refusal :=
  live fun s =>
    match s.mlk.rx with
    | .hunting => s
    | .inFrame _ =>
      let x := cutOff .gap s.mlk.rx
      (s.advance (s.mlk.lastByteAt + Config.byteGap + 1)).received x.1 (.discard .gap :: x.2.map RxEvent.work)

/-- FRAME_SENT: the frame at the head of the transmit queue has gone (R202). -/
def execFrameSent : State → Host.Outcome State Fault Refusal :=
  live fun s => { s with mlk := { s.mlk with tx := sentOne s.mlk.tx } }

/-- BYTE_RECEIVED: the byte is skipped, begins a frame or is collected; it restarts the gap measure (R200). -/
def execByteReceived (b : Byte) : State → Host.Outcome State Fault Refusal :=
  live fun s =>
    let x := receiveAll receiveBound s.mlk.rx [b]
    ({ s with mlk := { s.mlk with lastByteAt := s.time.now } } : State).received x.1 (x.2.map RxEvent.work)

/-- CEIL_PERIOD_START: the duty as it stands takes effect (R41). -/
def execCeilPeriodStart : State → Host.Outcome State Fault Refusal :=
  live fun s =>
    let s1 := s.advance (s.time.ceilAt + 1)
    { s1 with time := { s1.time with ceilAt := s1.time.now }, out := { s1.out with ceil := s1.duty } }

end Sys2Proof.Machine
end

