-- ==== Sys2Proof/Machine/LogCommands.lean ====
section
/-! DEFINITION. The commands of the Log Store: LOG_STATUS, LOG_READ, LOG_RELEASE, REG_PROGRAM, REG_READ (spec 09). -/

namespace Sys2Proof.Machine

/-- A listed record write waits for room while its test finds none: the count alone, without the halt that holds every
record write back (R175, R177, log 50). -/
def State.waitsRoom (s : State) : Request → Bool
  | .record => decide (s.lgs.free ≤ s.lgs.staging.length + bit s.spg.reserved 1)
  | .reg _ _ => false
  | .profile _ _ => false

/-- LOG_STATUS (R181). -/
def execLogStatus (tag : Byte) (payload : List Byte) : State → Host.Outcome State Fault Refusal :=
  command 0x60 tag payload State.inLog payload.isEmpty fun s =>
    let l := s.lgs
    reads s (.logStatus
      { oldest := if l.released < l.newestSeq then some (l.released + 1) else none
        newest := l.newestSeq, next := l.nextSeq, staged := l.staging.map fun r => r.seq
        usable := l.usable, unreleased := l.unreleased, free := l.free, badCount := l.badCount, badSet := l.badSet
        halted := l.halted, reserved := s.spg.reserved, op := l.op, waiting := l.waiting.map fun r => ⟨r.kind, s.waitsRoom r⟩
        lastResult := l.lastResult })

/-- LOG_READ (R182). -/
def execLogRead (tag : Byte) (payload : List Byte) : State → Host.Outcome State Fault Refusal :=
  command 0x61 tag payload State.inLog (payload.length == 4) fun s =>
    reads s (.logRead s.lgs.newestSeq (s.readable (bigEndian payload)))

/-- LOG_RELEASE; `markOk` says whether the mark cell's write reads back as written (R183). -/
def execLogRelease (tag : Byte) (payload : List Byte) (markOk : Bool) : State → Host.Outcome State Fault Refusal :=
  command 0x62 tag payload State.inLog (payload.length == 4) fun s =>
    let n := bigEndian payload
    let released := n - s.lgs.released
    if s.lgs.newestSeq < n || n < s.lgs.released then .error .outOfRange
    else
      let reply := fun s' : State => .logRelease s'.lgs.released released s'.lgs.free
      if released = 0 then .ok (s, [], reply)
      else
        .ok ({ s with lgs := { s.lgs with released := n }, store := s.store.writeMark n markOk },
             [.roomReport, .arbiter], reply)

/-- REG_PROGRAM (R185). -/
def execRegProgram (tag : Byte) (payload : List Byte) : State → Host.Outcome State Fault Refusal :=
  command 0x63 tag payload State.inIdlePass (decide (3 ≤ payload.length) && decide (payload.length ≤ 120)) fun s =>
    match payload with
    | slotByte :: offset :: data =>
      let slot := slotByte.toNat
      if 7 < slot || 31 < offset.toNat || 32 < data.length then .error .outOfRange
      else if !s.pins.service then .error .keyRequired
      else if s.lgs.regPending.isSome then .error .busy
      else if s.lgs.regStates[slot]? != some .blank then .error .locked
      else
        let image := regImage offset.toNat data
        .ok ({ s with lgs := { s.lgs with waiting := s.lgs.waiting ++ [.reg slot image] } }, [.arbiter],
             fun _ => .regProgram slot image)
    | _ => .error .badLength

/-- The 32 bytes of a registration slot as they read in the store; the image of a program whose image part is being written
reads as free values (R187, log 12). -/
def State.regBytes (s : State) (slot : Nat) : List Byte :=
  let writing := match s.lgs.op with
    | some (.reg k _ .image _) => k == slot
    | _ => false
  if writing then (List.range 32).map fun i => Config.storeByte (s.freeCount + i)
  else ((s.store.regs[slot]?).map fun c => c.bytes).getD (List.replicate 32 0xFF#8)

/-- REG_READ (R187). -/
def execRegRead (tag : Byte) (payload : List Byte) : State → Host.Outcome State Fault Refusal :=
  command 0x64 tag payload State.inLog (payload.length == 1) fun s =>
    let area := bigEndian payload
    if 7 < area && area != 255 then .error .outOfRange
    else
      let bytes := if area = 255 then (List.range 32).map Config.factoryByte else s.regBytes area
      reads s (.regRead s.lgs.regStates s.lgs.currentSlot s.lgs.regPending bytes)

end Sys2Proof.Machine
end

