-- ==== Sys2Proof/Machine/MapCommands.lean ====
section
/-! DEFINITION. The commands of the Map Unit (spec 04). -/

namespace Sys2Proof.Machine

/-- MAP_CLEAR (R71). -/
def execMapClear (tag : Byte) (payload : List Byte) : State → Host.Outcome State Fault Refusal :=
  command 0x20 tag payload State.inIdle payload.isEmpty fun s =>
    if s.mpu.mapLock then .error .locked
    else .ok ({ s with mpu := { s.mpu with window := [] } }, [], fun _ => .mapClear s.mpu.window.length)

/-- LOAD_BAYS: range, overlap and room tests; evicted bays leave, the records enter in their places, the cursors that stood
in MISS cross into them (R68, R69, R70). -/
def execLoadBays (tag : Byte) (payload : List Byte) : State → Host.Outcome State Fault Refusal :=
  command 0x21 tag payload State.inIdlePass
      (decide (11 ≤ payload.length) && decide (payload.length ≤ 88) && payload.length % 11 == 0) fun s =>
    match baysOfPayload payload with
    | none => .error .outOfRange
    | some bays =>
      if anyClash bays || bays.any fun b => b.clashes s.mpu.window then .error .overlap
      else
        match evict s.evictable (s.mpu.window.length + bays.length - Config.windowPlaces) s.mpu.window with
        | none => .error .full
        | some gone =>
          let window := bays.foldl (fun w b => insertBay b w) (s.mpu.window.drop gone.length)
          let s1 : State := { s with mpu := { s.mpu with window } }
          let (order, s2) := s1.arrange 4 s1.addedCrossings
          .ok (s2, order.map .moveCursor, fun s' => .loadBays s'.mpu.window.length (gone.map fun b => b.index))

/-- A cursor as MAP_READ gives it (R72). -/
def Cursor.reply (c : Cursor) (p : Option Permission) : CursorReply := ⟨c.pos, c.res, p, c.requestMark⟩

/-- MAP_READ (R72). -/
def execMapRead (tag : Byte) (payload : List Byte) : State → Host.Outcome State Fault Refusal :=
  command 0x22 tag payload State.inIdlePass (payload.length == 1) fun s =>
    let place := bigEndian payload
    if 63 < place then .error .outOfRange
    else
      reads s (.mapRead
        { count := s.mpu.window.length, mapLock := s.mpu.mapLock, service := s.pins.service, lock := s.lock
          reference := s.mpu.reference.reply none, weeder := s.mpu.weeder.reply (s.permission .weeder)
          pruner := s.mpu.pruner.reply (s.permission .pruner), spray := s.mpu.spray.reply (s.permission .spray)
          bays := (s.mpu.window.drop place).take 6 })

/-- A bay's codes and CONFIRMED flags, as SET_BAY_PERMIT answers them (R82). -/
def State.permitReply (index : Nat) (s : State) : OkResult :=
  match s.mpu.bay index with
  | some b => .setBayPermit b.weeder b.pruner b.spray b.confirmed
  | none => .setBayPermit .barred .barred .barred ToolSet.empty

/-- SET_BAY_PERMIT (R79, R82, log 20). A changed code gives the permission to the tool's block at its cursor as R82 says, also
where the effective permission stays as it was, for which R76 gives none (log 66). -/
def execSetBayPermit (tag : Byte) (payload : List Byte) : State → Host.Outcome State Fault Refusal :=
  command 0x23 tag payload State.inIdlePass (payload.length == 4) fun s =>
    match payload with
    | [i1, i0, t, c] =>
      let index := bigEndian [i1, i0]
      match toolOfCode t.toNat, Permit.ofCode c.toNat, decide (index ≤ 4095) with
      | some tool, some code, true =>
        match s.mpu.bay index with
        | none => .error .notFound
        | some b =>
          if b.protect || s.mpu.mapLock then .error .locked
          else if code = b.permit tool then .ok (s, [], State.permitReply index)
          else
            let m := s.mpu.mapBay index fun b => { b.setPermit tool code with confirmed := b.confirmed.set tool false }
            let cur := m.cursor (.tool tool)
            let here := cur.res == .bay index
            let m1 := if here then m.setCursor (.tool tool) { cur with requestMark := false } else m
            let barred := code == .barred && s.mpu.reference.res == .bay index
            .ok ({ s with mpu := m1 },
                 (if here then [.permission tool] else []) ++
                 (if barred then [.barredTest (ToolSet.empty.set tool (s.selected tool))] else []),
                 State.permitReply index)
      | _, _, _ => .error .outOfRange
    | _ => .error .badLength

/-- SET_BAY_PROTECT (R83); OUT_OF_RANGE comes first, then NOT_FOUND, then LOCKED (log 53). -/
def execSetBayProtect (tag : Byte) (payload : List Byte) : State → Host.Outcome State Fault Refusal :=
  command 0x24 tag payload State.inIdlePass (payload.length == 3) fun s =>
    match payload with
    | [i1, i0, v] =>
      let index := bigEndian [i1, i0]
      match settingOfCode v.toNat, decide (index ≤ 4095) with
      | some protect, true =>
        if (s.mpu.bay index).isNone then .error .notFound
        else if s.mpu.mapLock then .error .locked
        else .ok ({ s with mpu := s.mpu.mapBay index fun b => { b with protect } }, [], fun _ => .setBayProtect)
      | _, _ => .error .outOfRange
    | _ => .error .badLength

/-- CONFIRM_BAY (R76, R78); OUT_OF_RANGE comes before NOT_FOUND (log 53). -/
def execConfirmBay (tag : Byte) (payload : List Byte) : State → Host.Outcome State Fault Refusal :=
  command 0x25 tag payload State.inIdlePass (payload.length == 3) fun s =>
    match payload with
    | [i1, i0, t] =>
      let index := bigEndian [i1, i0]
      match toolOfCode t.toNat, decide (index ≤ 4095) with
      | some tool, true =>
        if (s.mpu.bay index).isNone then .error .notFound
        else
          let s' : State :=
            { s with mpu := s.mpu.mapBay index fun b => { b with confirmed := b.confirmed.set tool true } }
          .ok (s', if s'.permission tool = s.permission tool then [] else [.permission tool], fun _ => .confirmBay)
      | _, _ => .error .outOfRange
    | _ => .error .badLength

/-- MAP_LOCK (R84). -/
def execMapLock (tag : Byte) (payload : List Byte) : State → Host.Outcome State Fault Refusal :=
  command 0x26 tag payload State.inIdlePass (payload.length == 1) fun s =>
    match settingOfCode (bigEndian payload) with
    | none => .error .outOfRange
    | some all =>
      if s.mpu.mapLock && all then .error .locked
      else
        let newly := if all then (s.mpu.window.filter fun b => !b.protect).length else 0
        let window := if all then s.mpu.window.map fun b => { b with protect := true } else s.mpu.window
        .ok ({ s with mpu := { s.mpu with window, mapLock := true } }, [], fun s' => .mapLock s'.lock newly)

/-- MAP_UNLOCK (R85). -/
def execMapUnlock (tag : Byte) (payload : List Byte) : State → Host.Outcome State Fault Refusal :=
  command 0x27 tag payload State.inIdlePass payload.isEmpty fun s =>
    if !s.pins.service then .error .keyRequired
    else .ok ({ s with mpu := { s.mpu with mapLock := false } }, [], fun _ => .mapUnlock)

end Sys2Proof.Machine
end

