-- ==== Sys2Proof/Machine/PassCommands.lean ====
section
/-! DEFINITION. The commands of the Pass Controller (spec 05). -/

namespace Sys2Proof.Machine

/-- The head does not move and the arm is in, so that PARK may be taken (R106). -/
def State.atRest (s : State) : Bool := s.wsq.arm == some .retracted && s.prs.head.state != .moving

/-- PARK (R106, R207). -/
def execPark (tag : Byte) (payload : List Byte) : State → Host.Outcome State Fault Refusal :=
  command 0x03 tag payload State.inIdle payload.isEmpty fun s =>
    if s.lgs.profilePending || !s.atRest then .error .busy
    else .ok ({ s with psc := { s.psc with mode := .parked } }, [.decide], fun s' => .park s'.mode)

/-- WAKE (R107). -/
def execWake (tag : Byte) (payload : List Byte) : State → Host.Outcome State Fault Refusal :=
  command 0x04 tag payload (fun s => s.mode == .parked) payload.isEmpty fun s =>
    .ok ({ s with psc := { s.psc with mode := .idle } }, [.decide],
         fun s' => .wake s'.mode s'.stu.band s'.permit s'.sEff)

/-- The tests that an added or opened tool must pass (R92, R102). -/
def State.toolTests (s : State) (added : ToolSet) : Option Reason :=
  if added.spray && s.spg.tank.isNone then some .noTank
  else if added.spray && s.lgs.currentSlot.isNone then some .noRegistration
  else if added.pruner && s.prs.program.isNone then some .noProgram
  else none

/-- The fields of a PASS_OPEN payload (Table 11-8); none when one is out of range (R91). -/
def passOfPayload : List Byte → Option (PassRecord × Bool)
  | r1 :: r0 :: p1 :: p0 :: s3 :: s2 :: s1 :: s0 :: t :: code :: fields => do
    let tools ← toolSetOfByte t
    let start := bigEndian [s3, s2, s1, s0]
    let p : PassRecord :=
      { row := bigEndian [r1, r0], passId := bigEndian [p1, p0], start, tools, rehearsal := code.toNat, spray := none
        suspension := none, suspendedAt := none, suspensions := 0 }
    if tools = ToolSet.empty || 3 < code.toNat || Config.rpcMax < start then none
    else if tools.spray then do
      let (f, clamped) ← sprayFieldsOf fields
      some ({ p with spray := some f }, clamped)
    else some (p, false)
  | _ => none

/-- The length of a PASS_OPEN payload suits its tool set (R89, R91). -/
def passLengthOk (payload : List Byte) : Bool :=
  match payload[8]? with
  | some t => payload.length == (if t.getLsbD 2 then 17 else 10)
  | none => false

/-- A cursor placed at a map position with no resolution yet and no marks (R86). -/
def cursorAt (pos : Nat) : Cursor := { pos := some pos, res := .none, requestMark := false, missStretch := false }

/-- The blocks prepared for an open pass: count and offset first, then the cursors' positions (R50, R86, R93, R127, R149,
R151). -/
def State.openPass (s : State) (p : PassRecord) : State :=
  let s1 : State :=
    { s with
      psc := { mode := .pass, pass := some p, lastPass := none }
      odu := { s.odu with prescaler := 0, rpc := 0, direction := .forward, history := List.replicate 21 0, furthest := 0
                          offset := p.start, lastPost := none, postRef := none }
      ttr := { s.ttr with counter := 0, spacing := none }
      wsq := { s.wsq with queue := [], holdOverflow := false, holdQueue := false, clearedTo := none
                          intent := if p.tools.weeder then .armOut else .armIn, simArm := .retracted, simDue := none }
      prs := { s.prs with counts := Counts.zero, run := none, cand := none, simHead := Head.simRest } }
  { s1 with mpu :=
      { s1.mpu with window := s1.mpu.window.map fun b => { b with visited := ToolSet.empty }
                    reference := cursorAt (s1.cursorPos .reference)
                    weeder := cursorAt (s1.cursorPos (.tool .weeder))
                    pruner := cursorAt (s1.cursorPos (.tool .pruner))
                    spray := cursorAt (s1.cursorPos (.tool .spray)) } }

/-- The entries given at the open: the tool cursors as WEEDER, PRUNER, SPRAY (log 42), then the REFERENCE cursor's barred test
(R86, R93, log 10). -/
def State.openWorks (s : State) : List Work :=
  [CursorName.tool .weeder, .tool .pruner, .tool .spray, .reference].map fun n =>
    .enter n (s.mpu.resolve (s.cursorPos n))

/-- PASS_OPEN (R91, R92, R93, R207). -/
def execPassOpen (tag : Byte) (payload : List Byte) : State → Host.Outcome State Fault Refusal :=
  command 0x30 tag payload State.inIdle (passLengthOk payload) fun s =>
    if s.lgs.profilePending then .error .busy
    else match passOfPayload payload with
      | none => .error .outOfRange
      | some (p, clamped) =>
        if s.noProfile then .error .noProfile
        else if s.stu.band.stops then .error .band
        else match s.toolTests p.tools with
          | some r => .error r
          | none =>
            let s1 := s.openPass p
            .ok (s1, s1.openWorks, fun s' => .passOpen s'.psc.pass clamped)

/-- PASS_HOLD (R97). -/
def execPassHold (tag : Byte) (payload : List Byte) : State → Host.Outcome State Fault Refusal :=
  command 0x31 tag payload State.inPass payload.isEmpty fun s =>
    .ok (s, [.suspend .host], fun s' =>
      .passHold s'.running (s'.psc.pass.bind fun p => p.suspension) ((s'.psc.pass.map fun p => p.suspensions).getD 0))

/-- PASS_RESUME (R100, R101): the furthest count restarts, the weeder rebuilds at every resume (R113, R127), the pruner
restarts its step, the sections are decided; in this order (log 42). -/
def execPassResume (tag : Byte) (payload : List Byte) : State → Host.Outcome State Fault Refusal :=
  command 0x32 tag payload State.inPass payload.isEmpty fun s =>
    if s.running then .error .wrongMode
    else if s.stu.band.stops then .error .band
    else if s.barredAhead then .error .barredAhead
    else
      let s1 : State :=
        { s with psc := { s.psc with pass := s.psc.pass.map fun p => { p with suspension := none } }
                 odu := { s.odu with furthest := s.odu.rpc } }
      .ok (s1, [.rebuild, .prunerResume, .decide],
           fun s' => .passResume s'.running (s'.psc.pass.bind fun p => p.suspension))

/-- PASS_CLOSE: the mode, then each block's end-of-pass work (R104, log 10). -/
def execPassClose (tag : Byte) (payload : List Byte) : State → Host.Outcome State Fault Refusal :=
  command 0x33 tag payload State.inPass payload.isEmpty fun s =>
    .ok ({ s with psc := { s.psc with mode := .idle } },
         [.decide, .closeRecord, .weederEnd, .prunerEnd false, .trunksEnd, .mapEnd, .passEnd .closed],
         fun s' => .passClose s'.psc.lastPass s'.ttr.counter s'.odu.rpc)

/-- The tools of `a` that are not in `b`. -/
def ToolSet.minus (a b : ToolSet) : ToolSet :=
  ⟨a.weeder && !b.weeder, a.pruner && !b.pruner, a.spray && !b.spray⟩

/-- A miss stretch ends with the tool (R75, R86). -/
def Mpu.endStretches (m : Mpu) (t : ToolSet) : Mpu :=
  { m with weeder := { m.weeder with missStretch := m.weeder.missStretch && !t.weeder }
           pruner := { m.pruner with missStretch := m.pruner.missStretch && !t.pruner }
           spray := { m.spray with missStretch := m.spray.missStretch && !t.spray } }

/-- The state as TOOL_SET replaces the tools: the spray fields of a dropped SPRAY stay until its record is closed (R103,
R128). -/
def State.replaceTools (s : State) (p : PassRecord) (tools : ToolSet) (fields : Option SprayFields) : State :=
  let added := tools.minus p.tools
  { s with psc := { s.psc with pass := some { p with tools, spray := if added.spray then fields else p.spray } }
           mpu := s.mpu.endStretches (p.tools.minus tools)
           wsq := if added.weeder then { s.raisePastCaptures with queue := [], intent := .armOut } else s.wsq }

/-- What dropped and added tools hand on (R62, R103, R128, R149, R170): the dropped ones first, WEEDER, PRUNER, SPRAY within
each, and the barred test after every entry (log 42). -/
def State.toolWorks (s : State) (dropped added : ToolSet) : List Work :=
  let entry := fun t : Tool => Work.enter (.tool t) (s.mpu.cursor (.tool t)).res
  (if dropped.weeder then [.weederStop, .trunksDrop .weeder] else []) ++
  (if dropped.pruner then [.prunerEnd true, .trunksDrop .pruner] else []) ++
  (if dropped.spray then [.decide, .closeRecord, .dropSprayFields] else []) ++
  (if added.weeder then [entry .weeder] else []) ++ (if added.pruner then [entry .pruner] else []) ++
  (if added.spray then [entry .spray] else []) ++ [.barredTest added]

/-- The length of a TOOL_SET payload suits the tools it adds (R102). -/
def State.toolLengthOk (s : State) (payload : List Byte) : Bool :=
  match payload with
  | t :: _ => payload.length == (if t.getLsbD 2 && !s.selected .spray then 8 else 1)
  | [] => false

/-- TOOL_SET (R102, R103). -/
def execToolSet (tag : Byte) (payload : List Byte) (s0 : State) : Host.Outcome State Fault Refusal :=
  command 0x34 tag payload State.inPass (s0.toolLengthOk payload) (fun s =>
    match s.psc.pass, payload with
    | some p, t :: fields =>
      match toolSetOfByte t with
      | none => .error .outOfRange
      | some tools =>
        let added := tools.minus p.tools
        let spray := if added.spray then (sprayFieldsOf fields).map fun x => (some x.1, x.2) else some (none, false)
        if tools = ToolSet.empty then .error .outOfRange
        else match spray with
          | none => .error .outOfRange
          | some (f, clamped) =>
            match s.toolTests added with
            | some r => .error r
            | none =>
              if tools = p.tools then .ok (s, [], fun s' => .toolSet s'.psc.pass clamped)
              else
                let s1 := s.replaceTools p tools f
                .ok (s1, s1.toolWorks (p.tools.minus tools) added, fun s' => .toolSet s'.psc.pass clamped)
    | _, _ => .error .wrongMode) s0

/-- PASS_READ (R108); outside a pass no tool is reported selected (log 72), and SPRAY is never withheld (log 75). -/
def execPassRead (tag : Byte) (payload : List Byte) : State → Host.Outcome State Fault Refusal :=
  command 0x35 tag payload State.inIdlePass payload.isEmpty fun s =>
    reads s (.passRead
      { mode := s.mode, pass := if s.inPass then s.psc.pass else none
        lastPass := if s.inPass then none else s.psc.lastPass
        selected := s.tools, withheld := ⟨s.wsq.withheld, s.prs.fault, false⟩, driveEn := s.permit
        failing := s.failingTerms, rpc := s.odu.rpc, offset := s.odu.offset })

end Sys2Proof.Machine
end

