-- ==== Sys2Proof/Machine/StabilityCommands.lean ====
section
/-! DEFINITION. The commands of the Stability Unit and the Spray Gate: STAB_READ, SET_PAYLOAD, CLEAR_LATCH, FILL, TANK_READ
(spec 02, 08). -/

namespace Sys2Proof.Machine

/-- STAB_READ (R42); its duty is the one computed last, which CEIL takes at its next period (R41, log 74). -/
def execStabRead (tag : Byte) (payload : List Byte) : State → Host.Outcome State Fault Refusal :=
  command 0x10 tag payload State.inIdlePass payload.isEmpty fun s =>
    reads s (.stabRead
      { published := s.stu.published, band := s.stu.band, trip := s.stu.trip
        recovery := s.stu.recovery.map fun t => s.time.now - t
        load := s.stu.load, weeder := s.stu.weederAdm, pruner := s.stu.prunerAdm, driveEn := s.permit
        failing := s.failingTerms, duty := s.duty })

/-- The payload item of four signed fields, clamped to Table 1-1 (R43). -/
def payloadItem (m x y h : Int) : LoadItem :=
  ⟨clampInt 0 3000 m, clampInt (-3000) 3000 x, clampInt (-3000) 3000 y, clampInt 0 3000 h⟩

/-- SET_PAYLOAD: the computation completes before the reply (R7, R43). -/
def execSetPayload (tag : Byte) (payload : List Byte) : State → Host.Outcome State Fault Refusal :=
  command 0x11 tag payload State.inIdlePass (payload.length == 8) fun s =>
    match payload with
    | [m1, m0, x1, x0, y1, y0, h1, h0] =>
      let m := signed16 (bigEndian [m1, m0])
      let x := signed16 (bigEndian [x1, x0])
      let y := signed16 (bigEndian [y1, y0])
      let h := signed16 (bigEndian [h1, h0])
      let item := payloadItem m x y h
      .ok (s.setLoad { s.stu.load with payload := item },
           if item = s.stu.load.payload then [] else [.compute .load],
           fun s' => .setPayload s'.stu.load.payload (item.m != m) (item.x != x) (item.y != y) (item.h != h) s'.sEff
             s'.stu.band)
    | _ => .error .badLength

/-- CLEAR_LATCH (R36). -/
def execClearLatch (tag : Byte) (payload : List Byte) : State → Host.Outcome State Fault Refusal :=
  command 0x12 tag payload State.inIdlePass payload.isEmpty fun s =>
    if !s.pins.service then .error .keyRequired
    else if s.stu.band != .latched then .error .band
    else match s.stu.published with
      | some r =>
        if r.sampleState != .fresh || decide (r.margin.sEff < s.profile.recoveryLevel) then .error .band
        else
          .ok ({ s with stu := { s.stu with band := .caution, trip := none, recovery := none } },
               [.ceiling, .bandGiven], fun s' => .clearLatch s'.stu.band r.margin.sEff)
      | none => .error .band

/-- FILL, in IDLE and in a SUSPENDED pass (R164). -/
def execFill (tag : Byte) (payload : List Byte) : State → Host.Outcome State Fault Refusal :=
  command 0x18 tag payload (fun s => s.inIdlePass && !s.running) (payload.length == 6) fun s =>
    let asked := bigEndian (payload.take 4)
    let density := bigEndian (payload.drop 4)
    if density < 800 || 1500 < density then .error .outOfRange
    else
      let quantity := min Config.tankMax asked
      let staged := if s.spg.reserved && s.spg.openRec.isSome then some s.lgs.nextSeq else none
      .ok ({ s with spg := { s.spg with acc := s.spg.acc % Spg.flowUnit s.profile, tank := some ⟨quantity, density⟩
                                        overrunVolume := 0 } },
           [.closeRecord, .reload .tank, if s.selected .spray then .sprayEntry else .decide],
           fun _ => .fill quantity density (asked != quantity) staged)

/-- TANK_READ (R172). -/
def execTankRead (tag : Byte) (payload : List Byte) : State → Host.Outcome State Fault Refusal :=
  command 0x19 tag payload State.inIdlePass payload.isEmpty fun s =>
    reads s (.tankRead
      { tank := s.spg.tank, overrun := s.spg.overrunVolume, accumulator := s.spg.acc
        pendingVolume := s.spg.acc / Spg.flowUnit s.profile, flowK := s.profile.flowK, sections := s.spg.sections
        driven := s.pinsOut.sections, reserved := s.spg.reserved
        roomWait := s.spg.openRec.any fun r => r.roomWait
        speed := s.odu.speed, permission := s.permission .spray, openRec := s.spg.openRec })

end Sys2Proof.Machine
end

