-- ==== Sys2Proof/Machine/StartEvents.lean ====
section
/-! DEFINITION. The events of supply, RESET# line and STARTUP (spec 09, 11). -/

namespace Sys2Proof.Machine

/-- A part whose supply has gone: the area being written left part-written, everything volatile at its values after
power-on (R175, log 16). -/
def State.dark (s : State) : State := { s.losePower.boot with powered := false }

/-- POWER_ON: every block at its power-on values, STARTUP from PROFILE_CHECK. A part that is on loses its supply first
(R206, log 16). -/
def execPowerOn (s : State) : Host.Outcome State Fault Refusal :=
  let s1 := if s.powered then s.losePower else s
  .next ({ s1.boot with powered := true } : State).finish

/-- POWER_LOSS (R175). -/
def execPowerLoss (s : State) : Host.Outcome State Fault Refusal := .next (if s.powered then s.dark else s)

/-- RESET_LINE (R205). -/
def execResetLine (s : State) : Host.Outcome State Fault Refusal := live State.lineReset s

/-- STARTUP is in a phase. -/
def State.inPhase (s : State) (p : StartPhase) : Bool := s.mode == .startup && s.mlk.phase == p

/-- The profile that PROFILE_CHECK puts in force, with the NO_PROFILE mark (R206). -/
def StoredImage.found (i : StoredImage) : Profile × Bool :=
  match i.profile with
  | some p => (p, false)
  | Option.none => (Config.defaults, true)

/-- PROFILE_CHECK_DONE: the profile found is taken up by every block; the log scan follows (R206). A store operation still in
progress after the RESET# line holds the check back (R175). -/
def execProfileCheckDone : State → Host.Outcome State Fault Refusal :=
  live fun s =>
    if s.inPhase .profileCheck && s.lgs.op.isNone then
      let p := s.store.image.found
      cascade [.profileTaken p.1 p.2] { s with mlk := { s.mlk with phase := .logScan } }
    else s

/-- LOG_SCAN_DONE (R188). -/
def execLogScanDone : State → Host.Outcome State Fault Refusal :=
  live fun s =>
    if s.inPhase .logScan then
      { s with lgs := s.lgs.scanned s.store, mlk := { s.mlk with phase := .regScan } }
    else s

/-- REG_SCAN_DONE; STARTUP ends with it when the first margin computation has come (R189, R206). -/
def execRegScanDone : State → Host.Outcome State Fault Refusal :=
  live fun s =>
    if s.inPhase .regScan then
      cascade [.startEndTest]
        { s with lgs := { s.lgs with regStates := s.store.regs.map RegCell.scan }
                 mlk := { s.mlk with phase := .sampleWait } }
    else s

end Sys2Proof.Machine
end

