-- ==== Sys2Proof/Machine/StoreEvents.lean ====
section
/-! DEFINITION. The events of the non-volatile store (spec 09, 11). -/

namespace Sys2Proof.Machine

/-- STORE_OPERATION_BEGIN: a free store begins the oldest waiting request that can begin (R175). -/
def execStoreOperationBegin : State → Host.Outcome State Fault Refusal :=
  live fun s => if s.lgs.op.isNone then cascade [.arbiter] s else s

/-- What waits for room is a record write: one between attempts, or the request that a free store would begin (R177, R179). -/
def State.recordWaits (s : State) : Bool :=
  match s.lgs.op with
  | some (.record _ _ waitsRoom _) => waitsRoom
  | some (.reg _ _ _ _) => false
  | some (.profile _ _ _) => false
  | none => (takeFirst s.canBegin s.lgs.waiting).any fun x => x.1.kind == .record

/-- RECORD_WRITE_BEGIN: a record write, or its next attempt, begins once the room test holds (R177, R179). -/
def execRecordWriteBegin : State → Host.Outcome State Fault Refusal :=
  live fun s => if s.recordWaits then cascade [.arbiter] s else s

/-- RECORD_WRITE_ATTEMPT_DONE; `ok` says whether the readback matches (R178, R179). -/
def execRecordWriteAttemptDone (ok : Bool) : State → Host.Outcome State Fault Refusal :=
  live fun s =>
    match s.lgs.op with
    | some (.record r attempt false cut) =>
      let x := if ok then lgsWritten r s else lgsAttemptFailed r attempt cut s
      cascade x.2 x.1
    | some (.record _ _ true _) => s
    | some (.reg _ _ _ _) => s
    | some (.profile _ _ _) => s
    | none => s

/-- REG_PROGRAM_PART_DONE (R186). -/
def execRegProgramPartDone (ok : Bool) : State → Host.Outcome State Fault Refusal :=
  live fun s =>
    match s.lgs.op with
    | some (.reg slot image part cut) =>
      let x := if ok then lgsPartDone slot image part cut s else lgsPartFailed slot part s
      cascade x.2 x.1
    | some (.record _ _ _ _) => s
    | some (.profile _ _ _) => s
    | none => s

/-- The profile write completed: the image stored or broken, and the profile that comes into force past STARTUP (R207). -/
def State.profileWritten (s : State) (image : List Byte) (crc : Nat) (ok : Bool) : State × List Work :=
  let stored : StoredImage := if ok then .whole image crc else .broken
  let p := stored.found
  ({ s with store := { s.store with image := stored }, lgs := s.lgs.complete .profile none ok },
   (if s.mode == .startup then [] else [.profileTaken p.1 p.2]) ++ [.arbiter])

/-- PROFILE_WRITE_COMPLETE (R207). -/
def execProfileWriteComplete (ok : Bool) : State → Host.Outcome State Fault Refusal :=
  live fun s =>
    match s.lgs.op with
    | some (.profile image crc _) =>
      let x := s.profileWritten image crc ok
      cascade x.2 x.1
    | some (.record _ _ _ _) => s
    | some (.reg _ _ _ _) => s
    | none => s

end Sys2Proof.Machine
end

