-- ==== Sys2Proof/Machine/ToolCommands.lean ====
section
/-! DEFINITION. The commands of the Weeder Sequencer, the Pruner Sequencer and the Trunk Tracker (spec 03, 06, 07). -/

namespace Sys2Proof.Machine

/-- The time left on a deadline (R130, R152). -/
def State.timeLeft (s : State) (d : Option Nat) : Option Nat := d.map fun t => t - s.time.now

/-! ### Weeder -/

/-- STALL leaves the withheld set; a set that becomes empty in PASS turns the intent OUT and raises the cleared-to position
(R120, R124). -/
def State.recoverWeeder (s : State) : State :=
  if !s.wsq.stall then s
  else if s.inPass && !s.wsq.fault then
    { s with wsq := { s.raisePastCaptures with stall := false, intent := .armOut } }
  else { s with wsq := { s.wsq with stall := false } }

/-- WEEDER_RECOVER (R120, R124); the arm tested is the physical one, also under code 3 (log 48). -/
def execWeederRecover (tag : Byte) (payload : List Byte) : State → Host.Outcome State Fault Refusal :=
  command 0x40 tag payload State.inIdlePass payload.isEmpty fun s =>
    if s.wsq.arm != some .retracted then .error .busy
    else
      .ok (s.recoverWeeder, if s.wsq.stall then [.drive] else [],
           fun s' => .weederRecover s'.wsq.arm s'.wsq.stall s'.wsq.fault)

/-- WEEDER_READ (R130). -/
def execWeederRead (tag : Byte) (payload : List Byte) : State → Host.Outcome State Fault Refusal :=
  command 0x41 tag payload State.inIdlePass payload.isEmpty fun s =>
    let o := s.pinsOut
    reads s (.weederRead
      { arm := s.wsq.arm, simArm := if s.simMotion then some s.wsq.simArm else none
        timeLeft := if s.simMotion then none else s.timeLeft s.wsq.deadline
        armExt := s.pins.armExt, armRet := s.pins.armRet, armOut := o.armOut, armIn := o.armIn, blade := o.blade
        bladeCommanded := s.bladeCommanded, intent := s.wsq.intent, clearedTo := s.wsq.clearedTo
        holdOverflow := s.wsq.holdOverflow, holdQueue := s.wsq.holdQueue, stall := s.wsq.stall, fault := s.wsq.fault
        admission := s.stu.weederAdm, permission := s.permission .weeder, failing := s.driveTerms, queue := s.wsq.queue })

/-! ### Pruner -/

/-- A payload of a mode and 1 to 16 whole steps (R133). -/
def programLengthOk (payload : List Byte) : Bool :=
  decide (8 ≤ payload.length) && decide (payload.length ≤ 113) && (payload.length - 1) % 7 == 0

/-- PRUNE_PROGRAM (R133, R134). -/
def execPruneProgram (tag : Byte) (payload : List Byte) : State → Host.Outcome State Fault Refusal :=
  command 0x48 tag payload State.inIdlePass (programLengthOk payload) fun s =>
    match programOfPayload payload with
    | none => .error .outOfRange
    | some g =>
      if s.prs.run.isSome then .error .busy
      else
        .ok ({ s with prs := { s.prs with program := some g, armed := true } }, [],
             fun _ => .pruneProgram g.steps.length g.mode)

/-- PRUNE_ARM (R134); its reply carries the head that the sequencer runs, under code 3 the simulated one (log 48). -/
def execPruneArm (tag : Byte) (payload : List Byte) : State → Host.Outcome State Fault Refusal :=
  command 0x49 tag payload State.inIdlePass payload.isEmpty fun s =>
    if s.prs.program.isNone then .error .noProgram
    else
      .ok ({ s with prs := { s.prs with armed := true } },
           if s.headNow.state == .unplaced then [.issue Pair.rest] else [],
           fun s' => .pruneArm s'.prs.armed s'.headNow.state s'.prs.fault)

/-- What PRUNE_HALT does by the run context (R146). -/
def State.pruneHalt (s : State) : State × List Work :=
  match s.prs.run with
  | none => ({ s with prs := { s.prs with armed := false } }, [.skipAll, .rest])
  | some r =>
    if r.halting then (s, [])
    else if !r.deferred && s.running then (s.setRun (some { r with halting := true }), [])
    else (s.setRun (some { r with halting := true }), [.endRun .skipped])

/-- PRUNE_HALT (R146). -/
def execPruneHalt (tag : Byte) (payload : List Byte) : State → Host.Outcome State Fault Refusal :=
  command 0x4A tag payload State.inIdlePass payload.isEmpty fun s =>
    let h := s.pruneHalt
    .ok (h.1, h.2, fun s' => .pruneHalt s'.prs.armed (s'.prs.run.map fun r => (r.blocking, r.halting)))

/-- The candidate as PRUNE_READ gives it (R138, R139). -/
def State.candidateReply (s : State) : Option CandidateReply :=
  s.ttr.candidate.map fun t =>
    { trunk := t.number, opening := windowOpen s.profile t.pos, latest := windowLatest s.profile t.pos
      waiting := s.prs.cand.any fun c => c.trunk == t.number && c.waiting }

/-- PRUNE_READ (R152). -/
def execPruneRead (tag : Byte) (payload : List Byte) : State → Host.Outcome State Fault Refusal :=
  command 0x4B tag payload State.inIdlePass payload.isEmpty fun s =>
    reads s (.pruneRead
      { program := s.prs.program, armed := s.prs.armed, fault := s.prs.fault, head := s.prs.head
        timeLeft := if s.simMotion then none else s.timeLeft s.prs.head.deadline
        inPosition := s.pins.headInpos, simHead := if s.simMotion then some s.prs.simHead else none
        cutters := s.pinsOut.cut, cuttersCommanded := s.cuttersCommanded, run := s.prs.run
        admission := s.stu.prunerAdm.map fun q => q.status
        stepWaitLeft := s.timeLeft (s.prs.run.bind fun r => r.stepWait)
        candidate := s.candidateReply, permission := s.permission .pruner, counts := s.prs.counts })

/-! ### Position and trunk list -/

/-- TRUNK_READ (R63). -/
def execTrunkRead (tag : Byte) (payload : List Byte) : State → Host.Outcome State Fault Refusal :=
  command 0x50 tag payload State.inIdlePass (payload.length == 1) fun s =>
    let place := bigEndian payload
    if 31 < place then .error .outOfRange
    else
      reads s (.trunkRead
        { rpc := s.odu.rpc, prescaler := s.odu.prescaler, direction := s.odu.direction, speed := s.odu.speed
          furthest := s.odu.furthest, offset := s.odu.offset, lastPost := s.odu.lastPost, postRef := s.odu.postRef
          count := s.ttr.trunks.length, counter := s.ttr.counter, spacing := s.ttr.spacing
          overflowed := s.ttr.overflowed, trunks := (s.ttr.trunks.drop place).take 8 })

end Sys2Proof.Machine
end

