-- ==== Sys2Proof/Machine/ToolEvents.lean ====
section
/-! DEFINITION. The events of the arm, the head, the pruner's timers and the flow meter (spec 06, 07, 08). -/

namespace Sys2Proof.Machine

/-! ### The arm (R121 to R129) -/

/-- The physical arm takes events: in IDLE and PASS, frozen under code 3 (R121, R127, R129). -/
def State.armTakes (s : State) : Bool := s.drives && !s.simMotion

/-- ARM_EXT: the switch follows its level; an assertion takes EXTENDING to EXTENDED (R122). -/
def execArmExt (asserted : Bool) (s : State) : Host.Outcome State Fault Refusal :=
  live (fun s => if asserted && s.armTakes && s.wsq.arm == some .extending then cascade [.arm .extended] s else s)
    { s with pins := { s.pins with armExt := asserted } }

/-- ARM_RET: an assertion takes RETRACTING and STALLED to RETRACTED (R122). -/
def execArmRet (asserted : Bool) (s : State) : Host.Outcome State Fault Refusal :=
  live (fun s => if asserted && s.armTakes && armIsDrivenIn s.wsq.arm then cascade [.arm .retracted] s else s)
    { s with pins := { s.pins with armRet := asserted } }

/-- ARM_DEADLINE_EXPIRY: EXTENDING and RETRACTING become STALLED (R122, R123). -/
def execArmDeadlineExpiry : State → Host.Outcome State Fault Refusal :=
  live fun s =>
    match s.wsq.deadline with
    | some d =>
      if s.armTakes && (s.wsq.arm == some .extending || s.wsq.arm == some .retracting) then
        cascade [.arm .stalled] (s.advance d)
      else s
    | none => s

/-- SIM_ARM_MOVE_DONE (R129). -/
def execSimArmMoveDone : State → Host.Outcome State Fault Refusal :=
  live fun s =>
    match s.wsq.simDue with
    | some d =>
      if s.simMotion then
        cascade [.arm (if s.wsq.simArm == .extending then .extended else .retracted)] (s.advance d)
      else s
    | none => s

/-! ### The head (R136, R151) -/

/-- The physical head takes an in-position indication: past STARTUP, but in LOCKOUT and under code 3 (R136, R149, R151,
log 28). -/
def State.headTakes (s : State) : Bool := (s.drives || s.mode == .parked) && !s.simMotion

/-- HEAD_INPOS: a change to asserted completes a move or places an UNPLACED head; the pair is reported before the MOVE ends
(R136, R142, log 69). -/
def execHeadInpos (asserted : Bool) (s : State) : Host.Outcome State Fault Refusal :=
  let indication := asserted && !s.pins.headInpos
  live (fun s =>
      if indication && s.headTakes && s.prs.head.state != .atTarget then
        cascade [.reload .head, .headDone] { s with prs := { s.prs with head := s.prs.head.complete } }
      else s)
    { s with pins := { s.pins with headInpos := asserted } }

/-- The head's move is the move of the run's step (R142). -/
def State.stepMoving (s : State) : Bool :=
  s.prs.run.any fun r =>
    r.phase == .move && !r.deferred && !r.suspended && (s.prs.step r).any fun st => st.target == s.prs.head.issued

/-- HEAD_DEADLINE_EXPIRY: the pair bounded, HEAD_TIMEOUT reported, rest issued after another move and UNPLACED after a rest
move, a run whose move it was ABANDONED, the candidate considered, in this order (R136, R145, log 27, log 69). -/
def execHeadDeadlineExpiry : State → Host.Outcome State Fault Refusal :=
  live fun s =>
    let h := s.prs.head
    match h.deadline with
    | some d =>
      if s.armTakes && h.state == .moving then
        let wasRest := h.issued == Pair.rest
        let b : Head := { h.bound with state := if wasRest then .unplaced else .moving }
        let s1 := s.advance d
        cascade
          ([.reload .head, .occur .headTimeout (.minor (.head h.issued b.confirmed s.odu.rpc))] ++
           (if wasRest then [] else [.rest]) ++ (if s.stepMoving then [.endRun .abandoned] else []) ++ [.consider])
          { s1 with prs := { s1.prs with head := b } }
      else s
    | none => s

/-- SIM_HEAD_MOVE_DONE (R151). -/
def execSimHeadMoveDone : State → Host.Outcome State Fault Refusal :=
  live fun s =>
    match s.prs.simHead.deadline with
    | some d =>
      if s.simMotion && s.prs.simHead.state == .moving then
        let s1 := s.advance d
        cascade [.headDone] { s1 with prs := { s1.prs with simHead := s1.prs.simHead.complete } }
      else s
    | none => s

/-! ### The pruner's timers (R141, R142) -/

/-- PHASE_TIMER_EXPIRY (R141, R143). -/
def execPhaseTimerExpiry : State → Host.Outcome State Fault Refusal :=
  live fun s =>
    match s.prs.run with
    | some r =>
      match r.timer with
      | some t => cascade [.phaseEnd] ((s.advance t).setRun (some { r with timer := none }))
      | none => s
    | none => s

/-- STEP_WAIT_EXPIRY: the record withdrawn, the run ABANDONED (R142). -/
def execStepWaitExpiry : State → Host.Outcome State Fault Refusal :=
  live fun s =>
    match s.prs.run with
    | some r =>
      match r.stepWait with
      | some t => if r.deferred then cascade [.endRun .abandoned] (s.advance t) else s
      | none => s
    | none => s

/-! ### The flow meter (R160) -/

/-- FLOW_PULSE: 1000 added unless that passes the range; millilitres taken off under a reservation, or the reservation
sought, for a record that was opened at FLOW_K or more too (R158, R160, log 57). -/
def execFlowPulse : State → Host.Outcome State Fault Refusal :=
  live fun s =>
    let acc := if s.spg.acc + 1000 ≤ Config.count32Max then s.spg.acc + 1000 else s.spg.acc
    cascade [if s.spg.reserved then .takeOff else .seekForFlow] { s with spg := { s.spg with acc } }

end Sys2Proof.Machine
end

