-- ==== Sys2Proof/Machine/Dispatch.lean ====
section
/-! DEFINITION. Every row of the table given to its meaning, one arm each. -/

namespace Sys2Proof.Machine

def exec (i : Instr) (s : State) : Host.Outcome State Fault Refusal :=
  match i with
  | .powerOn => Sys2Proof.Machine.execPowerOn s
  | .resetLine => Sys2Proof.Machine.execResetLine s
  | .profileCheckDone => Sys2Proof.Machine.execProfileCheckDone s
  | .logScanDone => Sys2Proof.Machine.execLogScanDone s
  | .regScanDone => Sys2Proof.Machine.execRegScanDone s
  | .samplePeriod reading => Sys2Proof.Machine.execSamplePeriod reading s
  | .staleTimerExpiry => Sys2Proof.Machine.execStaleTimerExpiry s
  | .lostTimerExpiry => Sys2Proof.Machine.execLostTimerExpiry s
  | .recoveryExpiry => Sys2Proof.Machine.execRecoveryExpiry s
  | .encoderTransition a b => Sys2Proof.Machine.execEncoderTransition a b s
  | .speedRecord => Sys2Proof.Machine.execSpeedRecord s
  | .postCapture => Sys2Proof.Machine.execPostCapture s
  | .feelerCapture => Sys2Proof.Machine.execFeelerCapture s
  | .armExt asserted => Sys2Proof.Machine.execArmExt asserted s
  | .armRet asserted => Sys2Proof.Machine.execArmRet asserted s
  | .armDeadlineExpiry => Sys2Proof.Machine.execArmDeadlineExpiry s
  | .simArmMoveDone => Sys2Proof.Machine.execSimArmMoveDone s
  | .headInpos asserted => Sys2Proof.Machine.execHeadInpos asserted s
  | .headDeadlineExpiry => Sys2Proof.Machine.execHeadDeadlineExpiry s
  | .simHeadMoveDone => Sys2Proof.Machine.execSimHeadMoveDone s
  | .phaseTimerExpiry => Sys2Proof.Machine.execPhaseTimerExpiry s
  | .stepWaitExpiry => Sys2Proof.Machine.execStepWaitExpiry s
  | .flowPulse => Sys2Proof.Machine.execFlowPulse s
  | .storeOperationBegin => Sys2Proof.Machine.execStoreOperationBegin s
  | .recordWriteBegin => Sys2Proof.Machine.execRecordWriteBegin s
  | .recordWriteAttemptDone ok => Sys2Proof.Machine.execRecordWriteAttemptDone ok s
  | .regProgramPartDone ok => Sys2Proof.Machine.execRegProgramPartDone ok s
  | .profileWriteComplete ok => Sys2Proof.Machine.execProfileWriteComplete ok s
  | .silenceExpiry => Sys2Proof.Machine.execSilenceExpiry s
  | .secondsTick => Sys2Proof.Machine.execSecondsTick s
  | .keyChange service => Sys2Proof.Machine.execKeyChange service s
  | .validFrame kind tag payload => Sys2Proof.Machine.execValidFrame kind tag payload s
  | .frameDiscard reason last => Sys2Proof.Machine.execFrameDiscard reason last s
  | .frameGapTimeout => Sys2Proof.Machine.execFrameGapTimeout s
  | .frameSent => Sys2Proof.Machine.execFrameSent s
  | .unknownKind kind tag payload => Sys2Proof.Machine.execUnknownKind kind tag payload s
  | .status tag payload => Sys2Proof.Machine.execStatus tag payload s
  | .reset tag payload => Sys2Proof.Machine.execReset tag payload s
  | .park tag payload => Sys2Proof.Machine.execPark tag payload s
  | .wake tag payload => Sys2Proof.Machine.execWake tag payload s
  | .setTime tag payload => Sys2Proof.Machine.execSetTime tag payload s
  | .ackConditions tag payload => Sys2Proof.Machine.execAckConditions tag payload s
  | .setConditionClass tag payload => Sys2Proof.Machine.execSetConditionClass tag payload s
  | .profileWrite tag payload => Sys2Proof.Machine.execProfileWrite tag payload s
  | .profileRead tag payload => Sys2Proof.Machine.execProfileRead tag payload s
  | .stabRead tag payload => Sys2Proof.Machine.execStabRead tag payload s
  | .setPayload tag payload => Sys2Proof.Machine.execSetPayload tag payload s
  | .clearLatch tag payload => Sys2Proof.Machine.execClearLatch tag payload s
  | .fill tag payload => Sys2Proof.Machine.execFill tag payload s
  | .tankRead tag payload => Sys2Proof.Machine.execTankRead tag payload s
  | .mapClear tag payload => Sys2Proof.Machine.execMapClear tag payload s
  | .loadBays tag payload => Sys2Proof.Machine.execLoadBays tag payload s
  | .mapRead tag payload => Sys2Proof.Machine.execMapRead tag payload s
  | .setBayPermit tag payload => Sys2Proof.Machine.execSetBayPermit tag payload s
  | .setBayProtect tag payload => Sys2Proof.Machine.execSetBayProtect tag payload s
  | .confirmBay tag payload => Sys2Proof.Machine.execConfirmBay tag payload s
  | .mapLock tag payload => Sys2Proof.Machine.execMapLock tag payload s
  | .mapUnlock tag payload => Sys2Proof.Machine.execMapUnlock tag payload s
  | .passOpen tag payload => Sys2Proof.Machine.execPassOpen tag payload s
  | .passHold tag payload => Sys2Proof.Machine.execPassHold tag payload s
  | .passResume tag payload => Sys2Proof.Machine.execPassResume tag payload s
  | .passClose tag payload => Sys2Proof.Machine.execPassClose tag payload s
  | .toolSet tag payload => Sys2Proof.Machine.execToolSet tag payload s
  | .passRead tag payload => Sys2Proof.Machine.execPassRead tag payload s
  | .weederRecover tag payload => Sys2Proof.Machine.execWeederRecover tag payload s
  | .weederRead tag payload => Sys2Proof.Machine.execWeederRead tag payload s
  | .pruneProgram tag payload => Sys2Proof.Machine.execPruneProgram tag payload s
  | .pruneArm tag payload => Sys2Proof.Machine.execPruneArm tag payload s
  | .pruneHalt tag payload => Sys2Proof.Machine.execPruneHalt tag payload s
  | .pruneRead tag payload => Sys2Proof.Machine.execPruneRead tag payload s
  | .trunkRead tag payload => Sys2Proof.Machine.execTrunkRead tag payload s
  | .logStatus tag payload => Sys2Proof.Machine.execLogStatus tag payload s
  | .logRead tag payload => Sys2Proof.Machine.execLogRead tag payload s
  | .logRelease tag payload markOk => Sys2Proof.Machine.execLogRelease tag payload markOk s
  | .regProgram tag payload => Sys2Proof.Machine.execRegProgram tag payload s
  | .regRead tag payload => Sys2Proof.Machine.execRegRead tag payload s
  | .powerLoss => Sys2Proof.Machine.execPowerLoss s
  | .byteReceived b => Sys2Proof.Machine.execByteReceived b s
  | .ceilPeriodStart => Sys2Proof.Machine.execCeilPeriodStart s

end Sys2Proof.Machine
end

