-- ==== Sys2Proof/Machine/Step.lean ====
section
/-! DEFINITION. One step of the FS318: the row at the front of the queue, taken whole. -/

namespace Sys2Proof.Machine

/-- The row at the front of the queue is carried out with the queue's rest; an empty queue leaves the part as it is
(log 2). -/
def step (s : State) : Host.Outcome State Fault Refusal :=
  match s.pending with
  | i :: rest => exec i { s with pending := rest }
  | [] => .next s

/-- The state with the row that a word spells at the front of its queue; unchanged where the word spells none. -/
def State.withFetchWord (s : State) (nbits w : Nat) : State :=
  match Sys2Proof.decodeTableWord nbits w with
  | some i => { s with pending := i :: s.pending }
  | none => s

end Sys2Proof.Machine
end

