-- ==== Sys2Proof/Safety.lean ====
section
/-! DEFINITION. The terms the statements use: the frame a command row stands for, quiet outputs, the part of the state that no
hand-off between blocks touches, and the forms and bounds that every step keeps. -/

namespace Sys2Proof.Machine

/-! ### Rows and frames -/

/-- The frame that a command row stands for: its kind of Table 11-1, its tag and its payload; an event has none. -/
def frameOf : Instr → Option Frame
  | .status t p => some ⟨0x01#8, t, p⟩
  | .reset t p => some ⟨0x02#8, t, p⟩
  | .park t p => some ⟨0x03#8, t, p⟩
  | .wake t p => some ⟨0x04#8, t, p⟩
  | .setTime t p => some ⟨0x05#8, t, p⟩
  | .ackConditions t p => some ⟨0x06#8, t, p⟩
  | .setConditionClass t p => some ⟨0x07#8, t, p⟩
  | .profileWrite t p => some ⟨0x08#8, t, p⟩
  | .profileRead t p => some ⟨0x09#8, t, p⟩
  | .stabRead t p => some ⟨0x10#8, t, p⟩
  | .setPayload t p => some ⟨0x11#8, t, p⟩
  | .clearLatch t p => some ⟨0x12#8, t, p⟩
  | .fill t p => some ⟨0x18#8, t, p⟩
  | .tankRead t p => some ⟨0x19#8, t, p⟩
  | .mapClear t p => some ⟨0x20#8, t, p⟩
  | .loadBays t p => some ⟨0x21#8, t, p⟩
  | .mapRead t p => some ⟨0x22#8, t, p⟩
  | .setBayPermit t p => some ⟨0x23#8, t, p⟩
  | .setBayProtect t p => some ⟨0x24#8, t, p⟩
  | .confirmBay t p => some ⟨0x25#8, t, p⟩
  | .mapLock t p => some ⟨0x26#8, t, p⟩
  | .mapUnlock t p => some ⟨0x27#8, t, p⟩
  | .passOpen t p => some ⟨0x30#8, t, p⟩
  | .passHold t p => some ⟨0x31#8, t, p⟩
  | .passResume t p => some ⟨0x32#8, t, p⟩
  | .passClose t p => some ⟨0x33#8, t, p⟩
  | .toolSet t p => some ⟨0x34#8, t, p⟩
  | .passRead t p => some ⟨0x35#8, t, p⟩
  | .weederRecover t p => some ⟨0x40#8, t, p⟩
  | .weederRead t p => some ⟨0x41#8, t, p⟩
  | .pruneProgram t p => some ⟨0x48#8, t, p⟩
  | .pruneArm t p => some ⟨0x49#8, t, p⟩
  | .pruneHalt t p => some ⟨0x4A#8, t, p⟩
  | .pruneRead t p => some ⟨0x4B#8, t, p⟩
  | .trunkRead t p => some ⟨0x50#8, t, p⟩
  | .logStatus t p => some ⟨0x60#8, t, p⟩
  | .logRead t p => some ⟨0x61#8, t, p⟩
  | .logRelease t p _ => some ⟨0x62#8, t, p⟩
  | .regProgram t p => some ⟨0x63#8, t, p⟩
  | .regRead t p => some ⟨0x64#8, t, p⟩
  | .powerOn | .resetLine | .profileCheckDone | .logScanDone | .regScanDone | .samplePeriod _ | .staleTimerExpiry
  | .lostTimerExpiry | .recoveryExpiry | .encoderTransition _ _ | .speedRecord | .postCapture | .feelerCapture
  | .armExt _ | .armRet _ | .armDeadlineExpiry | .simArmMoveDone | .headInpos _ | .headDeadlineExpiry
  | .simHeadMoveDone | .phaseTimerExpiry | .stepWaitExpiry | .flowPulse | .storeOperationBegin | .recordWriteBegin
  | .recordWriteAttemptDone _ | .regProgramPartDone _ | .profileWriteComplete _ | .silenceExpiry | .secondsTick
  | .keyChange _ | .validFrame _ _ _ | .frameDiscard _ _ | .frameGapTimeout | .frameSent | .unknownKind _ _ _
  | .powerLoss | .byteReceived _ | .ceilPeriodStart => none

/-- The state `s`, in which the command `f` has been taken and carried out, with its OK reply handed on. -/
def State.replied (s : State) (f : Frame) (r : OkResult) : State := (s.send (.ok f.kind f.tag r 0)).finish

/-- The state `s`, in which the command `f` has been taken, with its REFUSED frame handed on. -/
def State.refusedWith (s : State) (f : Frame) (r : Reason) : State := (s.send (.refused f.kind f.tag r)).finish

/-- The commands taken in LOCKOUT (R198). -/
def lockoutKinds : List Byte := [0x01#8, 0x60#8, 0x61#8, 0x62#8, 0x64#8]

/-- The commands taken in PARKED (R201). -/
def parkedKinds : List Byte := [0x01#8, 0x02#8, 0x04#8]

/-- A command is taken in the current mode, by the modes of Table 11-1 (R201). -/
def takenIn (k : Byte) (s : State) : Bool :=
  match s.mode with
  | .startup => k == 0x01#8
  | .parked => parkedKinds.contains k
  | .lockout => lockoutKinds.contains k
  | .idle => !([0x04#8, 0x31#8, 0x32#8, 0x33#8, 0x34#8].contains k)
  | .pass => !([0x02#8, 0x03#8, 0x04#8, 0x08#8, 0x20#8, 0x30#8].contains k) && !(k == 0x18#8 && s.running)

/-- The payload has a length of Table 11-8 for its command; TOOL_SET's hangs on whether it adds SPRAY (R102, R208). -/
def Frame.fits (f : Frame) (s : State) : Bool :=
  let n := f.payload.length
  let spray := fun place => (f.payload.getD place 0#8).getLsbD 2
  match f.kind.toNat with
  | 0x05 | 0x06 | 0x23 | 0x61 | 0x62 => n == 4
  | 0x07 => n == 2
  | 0x08 => n == 110
  | 0x11 => n == 8
  | 0x18 => n == 6
  | 0x21 => decide (11 ≤ n) && decide (n ≤ 88) && n % 11 == 0
  | 0x22 | 0x26 | 0x50 | 0x64 => n == 1
  | 0x24 | 0x25 => n == 3
  | 0x30 => n == if spray 8 then 17 else 10
  | 0x34 => n == if spray 0 && !s.selected .spray then 8 else 1
  | 0x48 => decide (8 ≤ n) && decide (n ≤ 113) && (n - 1) % 7 == 0
  | 0x63 => decide (3 ≤ n) && decide (n ≤ 120)
  | _ => n == 0

/-- The rows that end every mode: the supply and the RESET# line (R205, R206). -/
def endsModes : Instr → Bool
  | .powerOn => true
  | .powerLoss => true
  | .resetLine => true
  | _ => false

/-! ### Outputs -/

/-- No actuator output is driven and the permit is released (R39, R127, R149, R197). -/
def Out.quiet (o : Out) : Bool :=
  !o.armOut && !o.armIn && !o.blade && o.cut == Cutters.off && o.sections == Six.all false && !o.driveEn

/-! ### After power-on -/

/-- The values that the tables of the chapters give after power-on and after the RESET# line (Tables 1-8, 2-5, 3-3, 4-5, 5-8,
6-5, 7-6, 8-4, 9-3, 10-3, 11-9), but for a store operation that runs on. -/
structure AfterPowerOn (t : State) : Prop where
  powered : t.powered = true
  mode : t.mode = .startup
  phase : t.mlk.phase = .profileCheck
  passes : t.psc.pass = none ∧ t.psc.lastPass = none
  samples : t.stu.ring = none ∧ t.stu.held = none ∧ t.stu.published = none ∧ t.stu.stale = false ∧ t.stu.lost = false
  payload : t.stu.load.payload = ⟨0, 0, 0, 0⟩
  admission : t.stu.weederAdm = none ∧ t.stu.prunerAdm = none
  band : t.stu.band = .normal ∧ t.stu.trip = none ∧ t.stu.recovery = none
  count : t.odu.prescaler = 0 ∧ t.odu.rpc = 0 ∧ t.odu.direction = .forward ∧ t.odu.history = List.replicate 21 0
  place : t.odu.furthest = 0 ∧ t.odu.offset = 0 ∧ t.odu.lastPost = none ∧ t.odu.postRef = none
  trunks : t.ttr.trunks = [] ∧ t.ttr.counter = 0 ∧ t.ttr.spacing = none ∧ t.ttr.overflowed = false
  map : t.mpu.window = [] ∧ t.mpu.mapLock = false
  cursors : ∀ n, (t.mpu.cursor n).pos = none ∧ (t.mpu.cursor n).res = .none
  weeder : t.wsq.queue = [] ∧ t.wsq.intent = .armIn ∧ t.wsq.clearedTo = none ∧ t.wsq.hold = false ∧
    t.wsq.withheld = false ∧ t.wsq.simArm = .retracted
  pruner : t.prs.program = none ∧ t.prs.armed = false ∧ t.prs.fault = false ∧ t.prs.run = none ∧
    t.prs.counts = Counts.zero
  head : t.prs.head.state = .unplaced ∧ t.prs.head.confirmed = ⟨1800, 600⟩ ∧ t.prs.head.settled = false
  spray : t.spg.acc = 0 ∧ t.spg.tank = none ∧ t.spg.overrunVolume = 0 ∧ t.spg.reserved = false ∧ t.spg.openRec = none ∧
    t.spg.sections = Six.all (.closed .notRunning)
  log : t.lgs.staging = [] ∧ t.lgs.waiting = []
  flags : t.cdu.flags = Flags.boot ∧ (∀ f, (t.cdu.flags.get f).isSet = false)
  link : t.mlk.rx = .hunting ∧ t.mlk.rxBuf = [] ∧ t.mlk.tx = [] ∧ t.mlk.lostNotices = 0
  silence : t.mlk.silenceFrom = none ∧ t.mlk.expired = false
  clock : t.mlk.time = none
  out : t.out = Out.off

/-! ### What no hand-off touches -/

/-- The two states agree on what only a row's own definition changes, never a hand-off between blocks: supply, clock, pins,
profile, store, the encoder's count and the posts, the sample rate in use, the samples, the trunk counter, MAPLOCK, the cane program, the log's
counts, the receiver and its buffer, the time of day, the phase of STARTUP, the queue of rows. -/
structure SameBase (s t : State) : Prop where
  powered : t.powered = s.powered
  time : t.time = s.time
  pins : t.pins = s.pins
  profile : t.profile = s.profile
  noProfile : t.noProfile = s.noProfile
  store : t.store = s.store
  odu : { t.odu with furthest := 0 } = { s.odu with furthest := 0 }
  rate : t.stu.rate = s.stu.rate
  ring : t.stu.ring = s.stu.ring
  held : t.stu.held = s.stu.held
  plausibleAt : t.stu.plausibleAt = s.stu.plausibleAt
  stale : t.stu.stale = s.stu.stale
  lost : t.stu.lost = s.stu.lost
  implausible : t.stu.implausible = s.stu.implausible
  payload : t.stu.load.payload = s.stu.load.payload
  counter : t.ttr.counter = s.ttr.counter
  spacing : t.ttr.spacing = s.ttr.spacing
  mapLock : t.mpu.mapLock = s.mpu.mapLock
  program : t.prs.program = s.prs.program
  badSet : t.lgs.badSet = s.lgs.badSet
  badCount : t.lgs.badCount = s.lgs.badCount
  newestSeq : t.lgs.newestSeq = s.lgs.newestSeq
  newestSlot : t.lgs.newestSlot = s.lgs.newestSlot
  released : t.lgs.released = s.lgs.released
  lastResult : t.lgs.lastResult = s.lgs.lastResult
  rx : t.mlk.rx = s.mlk.rx
  lastByteAt : t.mlk.lastByteAt = s.mlk.lastByteAt
  rxBuf : t.mlk.rxBuf = s.mlk.rxBuf
  clock : t.mlk.time = s.mlk.time
  phase : t.mlk.phase = s.mlk.phase
  pending : t.pending = s.pending

/-- The hand-offs that one block gives another in answer to a row: all but the three that a row itself begins with (a
profile taken up, a recovery expiry, a frame received). -/
def plain (ws : List Work) : Bool :=
  ws.all fun w =>
    match w with
    | .profileTaken _ _ => false
    | .recover => false
    | .frameIn _ => false
    | _ => true

/-! ### Forms and bounds -/

/-- The bounds of the link's buffer and queue (R200, R201, R202). -/
structure LinkBounds (s : State) : Prop where
  buffer : s.mlk.rxBuf.length ≤ 4
  notices : (s.mlk.tx.filter TxItem.isNotice).length ≤ 16
  replies : (s.mlk.tx.filter fun i => !i.isNotice).length ≤ 1
  lost : s.mlk.lostNotices ≤ 65535

/-- What the band, the trip record, the recovery timer and the ceiling have to do with one another (R22, R28, R33). -/
structure BandForm (s : State) : Prop where
  trip : s.stu.trip.isSome = s.stu.band.stops
  recovery : s.stu.recovery.isSome = true → s.stu.band = .tripped
  ceiling : s.stu.band.stops = true → ∀ p, s.stu.published = some p → p.c = 0

/-- The bounds of the lists and of the positions, and a profile in force that passes its tests (R47, R49, R52, R57, R66, R67,
R111, R207). -/
structure ListBounds (s : State) : Prop where
  bays : s.mpu.window.length ≤ 64
  order : s.mpu.window.Pairwise fun a b => a.stop ≤ b.start
  trunks : s.ttr.trunks.length ≤ 32
  queue : s.wsq.queue.length ≤ 16
  history : s.odu.history.length = 21
  rpc : s.odu.rpc ≤ 1048575
  offset : s.odu.offset.natAbs ≤ 1048575
  profile : s.profile.valid = true

end Sys2Proof.Machine
end

