-- ==== Sys2Proof/Certificates/Slice0/Obligations.lean ====
section
/-! DEFINITION. The statements for the provers, from the numbered rules of spec/. -/

open Sys2Proof Sys2Proof.Machine

/-! ### Steps -/

/-- A step takes the row at the front of the queue whole, with the queue's rest (the model's way of running a block,
log 2; R201: each command is taken whole before the next). -/
def Obligations.StepTakesTheFront : Prop :=
  ∀ (c : Instr) (s : State), step { s with pending := c :: s.pending } = exec c s

/-- Every row answers a next state from every state, and none touches the rows still waiting (R201: commands are
carried out in arrival order). The model's choice (log 2, log 16): with nothing waiting the part stays as it is, and a
part without supply takes no row but POWER_ON, only its input pins following. -/
def Obligations.EveryRowAnswersAndKeepsTheQueue : Prop :=
  (∀ (i : Instr) (s : State), ∃ t, exec i s = .next t ∧ t.pending = s.pending) ∧
  ((∀ s : State, s.pending = [] → step s = .next s) ∧
  ∀ (i : Instr) (s : State), s.powered = false → i ≠ .powerOn →
    ∃ t, exec i s = .next t ∧ { t with pins := s.pins } = s ∧
      (∀ b, i = .armExt b → t.pins = { s.pins with armExt := b }) ∧
      (∀ b, i = .armRet b → t.pins = { s.pins with armRet := b }) ∧
      (∀ b, i = .headInpos b → t.pins = { s.pins with headInpos := b }) ∧
      (∀ b, i = .keyChange b → t.pins = { s.pins with service := b }) ∧
      (∀ a b, i = .encoderTransition a b → t.pins = { s.pins with encA := a, encB := b }))

/-! ### Resets and STARTUP -/

/-- POWER_ON and RESET_LINE leave the values of Tables 1-8, 2-5, 3-3, 4-5, 5-8, 6-5, 7-6, 8-4, 9-3, 10-3 and 11-9 and
keep the store; a store operation in progress runs on after the line, and a write waiting for room between attempts
fails (R175, R205). POWER_LOSS: the supply and everything volatile go; the store keeps all but the area being written,
which is left part-written (R175, R183, R186). The model's choices in it: the pair on the pins (log 6), the part-
written slot (log 12), the supply mark (log 16), no message of the head link as sent (log 52), no slot in the result
of a write that the line fails (log 58), the phase while an operation still runs (log 61). -/
def Obligations.PowerAndTheResetLine : Prop :=
  (AfterPowerOn State.reset ∧
  (∀ s : State, s.powered = false →
    ∃ t, exec .powerOn s = .next t ∧ AfterPowerOn t ∧ t.store = s.store ∧ t.lgs.op = none ∧ t.lgs.lastResult = none ∧
      t.odu.encA = s.pins.encA ∧ t.odu.encB = s.pins.encB ∧ t.pins = s.pins) ∧
  ∀ s : State, s.powered = true →
    ∃ t, exec .resetLine s = .next t ∧ AfterPowerOn t ∧ t.store = s.store ∧ t.odu.encA = s.pins.encA ∧
      t.odu.encB = s.pins.encB ∧ t.pins = s.pins ∧
      (s.lgs.op = none → t.lgs.op = none ∧ t.lgs.lastResult = none) ∧
      (∀ r n c, s.lgs.op = some (.record r n true c) → t.lgs.op = none ∧ t.lgs.lastResult = some ⟨.record, none, false⟩) ∧
      (∀ r n c, s.lgs.op = some (.record r n false c) → t.lgs.op = some (.record r n false true)) ∧
      (∀ k b p c, s.lgs.op = some (.reg k b p c) → t.lgs.op = some (.reg k b p true)) ∧
      (∀ b n c, s.lgs.op = some (.profile b n c) → t.lgs.op = some (.profile b n true))) ∧
  (∀ s : State, s.powered = true →
    ∃ t, exec .powerLoss s = .next t ∧ t.powered = false ∧ t.out = Out.off ∧ t.pins = s.pins ∧
      t.store.markA = s.store.markA ∧ t.store.markB = s.store.markB ∧
      (s.lgs.op = none → t.store = s.store) ∧
      (∀ r n c, s.lgs.op = some (.record r n true c) → t.store = s.store) ∧
      (∀ r n c, s.lgs.op = some (.record r n false c) →
        LogRing.read t.store.ring s.lgs.nextSlot = some .garbage ∧
        (∀ k, k ≠ s.lgs.nextSlot → LogRing.read t.store.ring k = LogRing.read s.store.ring k) ∧
        t.store.regs = s.store.regs ∧ t.store.image = s.store.image) ∧
      (∀ k b p c, s.lgs.op = some (.reg k b p c) →
        t.store.ring = s.store.ring ∧ t.store.image = s.store.image ∧
        (∀ j, j ≠ k → t.store.regs[j]? = s.store.regs[j]?) ∧
        ∀ x, t.store.regs[k]? = some x → (p = .beginMark → x.begun = true) ∧ (p = .commitMark → x.commit = .invalid)) ∧
      ∀ b n c, s.lgs.op = some (.profile b n c) →
        t.store.image = .broken ∧ t.store.ring = s.store.ring ∧ t.store.regs = s.store.regs)

/-- The RESET command, taken in IDLE and PARKED (R44, R205): IDLE with an empty buffer, window, trunk list and queue, no
run, no open record, no admission record, every flag CLEAR but those that the result taken again raises anew, their
classes kept; the tank, the volumes, the cane program, the log with its staged records, the store and the time of day
are kept. LATCHED is kept with its trip record; otherwise the band machine takes a lost episode as a trip, or its latest
result again: NORMAL, CAUTION or TRIPPED by the lines of Table 2-2. With the load table current the next state of
LATCHED and of NORMAL is exactly that. -/
def Obligations.ResetCommand : Prop :=
  ∀ (tag : Byte) (s : State), s.powered = true → s.mode = .idle ∨ s.mode = .parked →
    let f : Frame := ⟨0x02#8, tag, []⟩
    s.takes f = true →
    let u := takeFrame f s
    let w := u.resetBlocks
    let current := s.stu.load.weeder = w.itemNow .weeder ∧ s.stu.load.head = w.itemNow .head
    let ceiling := fun c : Published → Nat => s.stu.published.map fun r => { r with c := c r }
    (∃ t, exec (.reset tag []) s = .next t ∧ SameBase w t ∧ t.mode = .idle ∧ t.mlk.rxBuf = [] ∧ t.mlk.expired = false ∧
      t.mpu.window = [] ∧ t.mpu.mapLock = (s.mpu.mapLock && !s.pins.service) ∧ t.ttr.trunks = [] ∧
      t.ttr.overflowed = false ∧ t.wsq.queue = [] ∧ t.wsq.intent = .armIn ∧ t.wsq.hold = false ∧ t.prs.run = none ∧
      t.stu.weederAdm = none ∧ t.stu.prunerAdm = none ∧ t.spg.openRec = none ∧ t.spg.reserved = false ∧
      t.spg.tank = s.spg.tank ∧ t.spg.acc = s.spg.acc ∧ t.spg.overrunVolume = s.spg.overrunVolume ∧
      t.prs.program = s.prs.program ∧ t.lgs = s.lgs ∧ t.store = s.store ∧ t.mlk.time = s.mlk.time ∧
      (∀ g, (t.cdu.flags.get g).cls = (s.cdu.flags.get g).cls) ∧
      (∀ g, g ≠ .caution → g ≠ .trip → g ≠ .clip → (t.cdu.flags.get g).isSet = false) ∧
      (s.stu.band = .latched → t.stu.band = .latched ∧ t.stu.trip = s.stu.trip ∧ t.stu.recovery = none) ∧
      (s.stu.band ≠ .latched → s.stu.lost = true → s.stu.published.isSome = true → t.stu.band = .tripped) ∧
      (s.stu.band ≠ .latched → s.stu.lost = false → current → ∀ r, s.stu.published = some r →
        (r.margin.sEff < s.profile.sTrip →
          t.stu.band = .tripped ∧ (t.cdu.flags.get .trip).isSet = true ∧ t.out.driveEn = false ∧
          ∃ k, t.stu.trip = some k ∧ k.cause = .stability ∧ k.s = r.margin.s ∧ k.sEff = r.margin.sEff ∧ k.latched = false) ∧
        (s.profile.sTrip ≤ r.margin.sEff → r.margin.sEff < s.profile.sCaution →
          t.stu.band = .caution ∧ t.stu.trip = none ∧ t.out.driveEn = true ∧
          (t.cdu.flags.get .caution).detail = some (.caution r.margin.sEff r.margin.axis r.margin.side)))) ∧
    (s.stu.band ≠ .latched → s.stu.lost = false → current →
      (∀ r, s.stu.published = some r → s.profile.sTrip ≤ r.margin.sEff ∧ s.profile.sCaution ≤ r.margin.sEff) →
      exec (.reset tag []) s =
        .next (({ w with stu := { w.stu with published := ceiling fun r => ceilingOf s.profile r.margin.sEff } } : State).replied
          f (.reset .idle .normal true))) ∧
    (s.stu.band = .latched → current →
      exec (.reset tag []) s =
        .next (({ w with stu := { w.stu with published := ceiling fun _ => 0 } } : State).replied f
          (.reset .idle .latched false)))

/-- PROFILE_CHECK_DONE: the stored profile, when its CRC matches and every value passes, or else the defaults under
NO_PROFILE; every load item follows, and the log scan comes next (R9, R206). The prescaler's return to 0 is the
model's choice (log 41). -/
def Obligations.ProfileCheckTakesUpAProfile : Prop :=
  ∀ s : State, s.powered = true → s.mode = .startup → s.mlk.phase = .profileCheck → s.lgs.op = none →
    s.stu.published = none → s.stu.band = .normal →
    ∃ t, exec .profileCheckDone s = .next t ∧ t.mlk.phase = .logScan ∧ t.mode = .startup ∧
      (∀ bs crc p, s.store.image = .whole bs crc → crc16 bs = crc → Profile.ofImage bs = some p →
        t.profile = p ∧ t.noProfile = false) ∧
      (s.store.image.profile = none → t.profile = Config.defaults ∧ t.noProfile = true) ∧
      (∀ i, t.stu.load.get i = t.itemNow i) ∧ t.stu.load.payload = s.stu.load.payload ∧
      t.mlk = { s.mlk with phase := .logScan } ∧ t.store = s.store ∧ t.lgs = s.lgs ∧ t.cdu = s.cdu ∧
      t.odu = { s.odu with prescaler := 0 } ∧ t.ttr = s.ttr ∧ t.mpu = s.mpu ∧ t.psc = s.psc ∧ t.wsq = s.wsq ∧
      t.prs = s.prs ∧ t.spg = s.spg ∧ t.stu = { s.stu with load := t.stu.load } ∧ t.time = s.time ∧ t.pins = s.pins

/-- LOG_SCAN_DONE: the newest record is the valid record with the highest sequence number, the released mark the
higher of the mark cell's copies whose check holds, the first 32 bad slots in slot order form the bad-slot set, the bad
count is their number, held at 33, and more than 32 halt the log (R188). -/
def Obligations.LogScanFindsTheNewestRecord : Prop :=
  ∀ s : State, s.powered = true → s.mode = .startup → s.mlk.phase = .logScan →
    let bad := (s.store.ring.filter fun c => decide (c.2 = .badMark ∨ c.2 = .garbage)).map fun c => c.1
    ∃ t, exec .logScanDone s = .next t ∧ t.mlk = { s.mlk with phase := .regScan } ∧ t.store = s.store ∧
      (∀ n r, (n, SlotContent.record r) ∈ s.store.ring → r.seq ≤ t.lgs.newestSeq) ∧
      (t.lgs.newestSlot = none → t.lgs.newestSeq = 0 ∧ ∀ n r, (n, SlotContent.record r) ∉ s.store.ring) ∧
      (∀ n, t.lgs.newestSlot = some n → ∃ r, (n, SlotContent.record r) ∈ s.store.ring ∧ r.seq = t.lgs.newestSeq) ∧
      t.lgs.released = max (s.store.markA.getD 0) (s.store.markB.getD 0) ∧
      t.lgs.badCount = min 33 bad.length ∧ t.lgs.badSet = bad.take 32 ∧ (t.lgs.halted = true ↔ 32 < bad.length) ∧
      (∀ n, n ∈ bad ↔ ∃ c, (n, c) ∈ s.store.ring ∧ (c = .badMark ∨ c = .garbage)) ∧
      (LogRing.wf s.store.ring = true → bad.Pairwise (fun a b => a < b)) ∧
      t.lgs.staging = [] ∧ t.lgs.waiting = [] ∧ t.lgs.op = s.lgs.op ∧ t.lgs.regStates = s.lgs.regStates ∧
      { t with lgs := s.lgs, mlk := s.mlk, out := s.out } = s

/-- REG_SCAN_DONE: each registration slot is PROGRAMMED with a valid commit mark, BLANK when it was never written, and
DAMAGED otherwise: begun or written in any byte without a valid commit mark; without a margin computation yet STARTUP
waits for the first sample (R189). STARTUP ends when both scans and the first margin computation are done, with
REG_SCAN_DONE or with that computation, into LOCKOUT when an escalation was taken meanwhile, at the end's own report
of more than 32 bad slots too, and else into IDLE, with the silence timer started from zero (R197, R203, R206). The
order within the end of STARTUP is the model's (log 31), the clock's move to the sample too (log 3), and the mark of
the hand-off bound (log 17). -/
def Obligations.RegScanAndTheEndOfStartup : Prop :=
  (∀ c : RegCell, (c.commit = .valid → c.scan = .programmed) ∧ (c = RegCell.blank → c.scan = .blank) ∧
    (c.commit ≠ .valid → c ≠ RegCell.blank → c.scan = .damaged)) ∧
  (∀ s : State, s.powered = true → s.mode = .startup → s.mlk.phase = .regScan →
    let escalated := s.cdu.lockoutPending = true ∨ (s.lgs.badCount = 33 ∧ (s.cdu.flags.get .faultMajor).isSet = true)
    (s.stu.published = none →
      exec .regScanDone s =
        .next ({ s with lgs := { s.lgs with regStates := s.store.regs.map RegCell.scan }
                        mlk := { s.mlk with phase := .sampleWait } } : State).finish) ∧
    (s.stu.published.isSome = true →
      ∃ t, exec .regScanDone s = .next t ∧ (escalated → t.mode = .lockout) ∧ (¬escalated → t.mode = .idle) ∧
        t.mlk.silenceFrom = some s.time.now ∧ t.lgs.regStates = s.store.regs.map RegCell.scan ∧ t.cdu.held = [])) ∧
  ∀ (s : State) (x : Int × Int × Int), s.powered = true → s.mode = .startup → s.stu.published = none → s.stu.ring = none →
    250 ≤ (trimSample s.profile x).a.z →
    let escalated := s.cdu.lockoutPending = true ∨ (s.lgs.badCount = 33 ∧ (s.cdu.flags.get .faultMajor).isSet = true)
    (s.mlk.phase = .sampleWait →
      ∃ t, exec (.samplePeriod (some x)) s = .next t ∧
        (t.overrun = false → (escalated → t.mode = .lockout) ∧ (¬escalated → t.mode = .idle) ∧
          t.mlk.silenceFrom = some t.time.now ∧ t.cdu.held = [])) ∧
    (s.mlk.phase = .logScan ∨ s.mlk.phase = .regScan →
      ∃ t, exec (.samplePeriod (some x)) s = .next t ∧ t.mode = .startup ∧ t.stu.published.isSome = true)

/-! ### Margins, samples, bands -/

/-- The projected offsets (R17): each quotient truncated before it is added, each offset held within 32,767 with its
own stage, every product within 12,000,000 for values in their ranges. The two margins, the smaller of them, its axis
and its side (R18, R19, R20). R18's last sentence holds where W is at most 1000; above that the truncation gives 0 for
a point just past the edge. -/
def Obligations.MarginOfACompositeUnderTilt : Prop :=
  (∀ (p : Profile) (k : Bool) (c : Composite) (a : Axes),
    let m := margin p k c a
    m.dx = max (-32767) (min 32767 (c.x + (c.h * a.x).tdiv a.z)) ∧
    m.dy = max (-32767) (min 32767 (c.y + (c.h * a.y).tdiv a.z)) ∧
    (m.clipped.offsetX = true ↔ 32767 < (c.x + (c.h * a.x).tdiv a.z).natAbs) ∧
    (m.clipped.offsetY = true ↔ 32767 < (c.y + (c.h * a.y).tdiv a.z).natAbs) ∧
    (0 ≤ c.h → c.h ≤ 3000 → a.x.natAbs ≤ 4000 → a.y.natAbs ≤ 4000 →
      (c.h * a.x).natAbs ≤ 12000000 ∧ (c.h * a.y).natAbs ≤ 12000000) ∧
    (c.h = 0 ∨ a.y = 0 → c.y.natAbs ≤ 32767 → m.dy = c.y) ∧
    (0 < a.z → 0 ≤ c.h → 0 ≤ a.y → c.y.natAbs ≤ 32767 → c.y ≤ m.dy) ∧
    (0 < a.z → 0 ≤ c.h → 0 ≤ a.x → c.x.natAbs ≤ 32767 → c.x ≤ m.dx)) ∧
  (∀ (p : Profile) (k : Bool) (c : Composite) (a : Axes), 0 < p.halfTrack → 0 < p.tipFront → 0 < p.tipRear →
    let m := margin p k c a
    let l := (1000 * (p.halfTrack - m.dy.natAbs)).tdiv p.halfTrack
    let g := if 0 ≤ m.dx then (1000 * (p.tipFront - m.dx)).tdiv p.tipFront
             else (1000 * (p.tipRear - m.dx.natAbs)).tdiv p.tipRear
    m.l = max (-1000) l ∧ (m.clipped.lateral = true ↔ l < -1000) ∧ m.l ≤ 1000 ∧ (m.dy = 0 → m.l = 1000) ∧
    (p.halfTrack = 650 → m.dy = -700 → m.l = -76) ∧ (p.halfTrack < m.dy.natAbs → p.halfTrack ≤ 1000 → m.l < 0) ∧
    m.g = max (-1000) g ∧ (m.clipped.longitudinal = true ↔ g < -1000) ∧ m.g ≤ 1000 ∧
    m.s = min m.l m.g ∧ (m.axis = .lateral ↔ m.l ≤ m.g) ∧
    (m.axis = .lateral → (m.side = .right ↔ 0 ≤ m.dy) ∧ (m.side = .left ↔ m.dy < 0)) ∧
    (m.axis = .longitudinal → (m.side = .front ↔ 0 ≤ m.dx) ∧ (m.side = .rear ↔ m.dx < 0)) ∧
    -1000 ≤ m.s ∧ m.s ≤ 1000)

/-- The ceiling lies within 0 to V_MAX, rises with the margin, is 0 at S_TRIP and below and V_MAX at S_FULL and above;
CEIL_PERIOD_START puts its duty on the pin, 0 without the permit (R22, R41). The clock's move to the period is the
model's (log 3). -/
def Obligations.CeilingAndItsDuty : Prop :=
  (∀ (p : Profile) (e : Int), 0 ≤ p.vMax → p.sTrip < p.sFull →
    (ceilingOf p e : Int) ≤ p.vMax ∧ (e ≤ p.sTrip → ceilingOf p e = 0) ∧ (p.sFull ≤ e → (ceilingOf p e : Int) = p.vMax) ∧
    ∀ e' : Int, e ≤ e' → ceilingOf p e ≤ ceilingOf p e') ∧
  ceilingOf Config.defaults 449 = 663 ∧ 1000 * 663 / 1500 = 442 ∧
  ∀ s : State, s.powered = true →
    ∃ t, exec .ceilPeriodStart s = .next t ∧ t.time.ceilAt = max s.time.now (s.time.ceilAt + 1) ∧
      (t.out.driveEn = false → t.out.ceil = 0) ∧
      (∀ r, t.out.driveEn = true → s.stu.published = some r → t.out.ceil = 1000 * r.c / s.profile.vMax.toNat) ∧
      { t with time := s.time, out := s.out } = s

/-- The sample path (R10, R12, R13, R14, R15): an arrival past STARTUP enters the ring; below 250 mg it is implausible
and only the ring and the implausible mark change; otherwise its averages are held and the episodes end. No reading
changes nothing but the clock and the sample rate in use, which a read takes from the profile (R9). A plausible arrival in NORMAL whose S_EFF is at S_CAUTION or above, with nothing
clipped and no admission record, publishes its result and the ceiling of it, and changes nothing else (R16, R22, R29).
The clock's move to the period is the model's (log 3). -/
def Obligations.SampleArrivals : Prop :=
  (∀ s : State, s.powered = true → s.mode ≠ .startup →
    (∃ t, exec (.samplePeriod none) s = .next t ∧ t.time.now = max s.time.now (s.time.sampleAt + s.samplePeriod) ∧
      t.time.sampleAt = t.time.now ∧ t.stu = { s.stu with rate := s.profile.sampleRate } ∧
      { t with time := s.time, stu := s.stu, out := s.out } = s) ∧
    ∀ (q : Ring4) (x : Int × Int × Int), s.stu.ring = some q →
      let r := q.push (trimSample s.profile x)
      let c := s.advance (s.time.sampleAt + s.samplePeriod)
      let u : State := { c with time := { c.time with sampleAt := c.time.now } }
      let rate := s.profile.sampleRate
      (r.average.z < 250 →
        exec (.samplePeriod (some x)) s =
          .next ({ u with stu := { s.stu with rate, ring := some r, implausible := true } } : State).finish) ∧
      (250 ≤ r.average.z →
        ∃ t, exec (.samplePeriod (some x)) s = .next t ∧
          SameBase { u with stu := { s.stu with rate, ring := some r, held := some r.average, plausibleAt := u.time.now
                                                stale := false, lost := false, implausible := false } } t)) ∧
  (∀ (s : State) (q : Ring4) (x : Int × Int × Int) (old : Published), s.powered = true → s.mode ≠ .startup →
    s.stu.ring = some q → s.stu.published = some old → s.stu.band = .normal → s.stu.weederAdm = none →
    s.stu.prunerAdm = none →
    let r := q.push (trimSample s.profile x)
    let m := margin s.profile r.anyClipped (composite s.stu.load) r.average
    250 ≤ r.average.z → m.clipped.any = false → s.profile.sCaution ≤ m.sEff → s.profile.sTrip ≤ m.sEff →
    let c := s.advance (s.time.sampleAt + s.samplePeriod)
    exec (.samplePeriod (some x)) s =
      .next ({ c with
        time := { c.time with sampleAt := c.time.now }
        stu := { s.stu with
          rate := s.profile.sampleRate, ring := some r, held := some r.average, plausibleAt := c.time.now, stale := false, lost := false
          implausible := false
          published := some { margin := m, composite := composite s.stu.load, a := r.average, cause := .arrival
                              sampleState := .fresh, c := ceilingOf s.profile m.sEff } } } : State).finish)

/-- The trim of a reading and its clipped mark, with both examples, and its place in the ring (R11): the newest of the
four, or, while the ring is empty, all four when its a_z is 250 mg or more; an arrival taken before the PROFILE_CHECK
phase has ended is discarded, so that nothing of STU but the sample rate in use can change (R12). -/
def Obligations.TrimmedSampleEntersTheRing : Prop :=
  (∀ (p : Profile) (x y z : Int),
    let t := trimSample p (x, y, z)
    t.a.x = max (-4000) (min 4000 (x + p.trimX)) ∧ t.a.y = max (-4000) (min 4000 (y + p.trimY)) ∧
    t.a.z = max (-4000) (min 4000 (z + p.trimZ)) ∧
    (t.clipped = true ↔
      (x.natAbs = 4000 ∨ y.natAbs = 4000 ∨ z.natAbs = 4000) ∨
      (4000 < (x + p.trimX).natAbs ∨ 4000 < (y + p.trimY).natAbs ∨ 4000 < (z + p.trimZ).natAbs)) ∧
    (p.trimY = 150 → y = 3900 → t.a.y = 4000 ∧ t.clipped = true) ∧
    (p.trimY = -120 → y = 4000 → t.a.y = 3880 ∧ t.clipped = true)) ∧
  (∀ (s : State) (x : Int × Int × Int), s.powered = true → s.mode ≠ .startup ∨ s.mlk.phase ≠ .profileCheck →
    let y := trimSample s.profile x
    (∀ q, s.stu.ring = some q →
      ∃ t, exec (.samplePeriod (some x)) s = .next t ∧ t.stu.ring = some ⟨q.s1, q.s2, q.s3, y⟩) ∧
    (s.stu.ring = none →
      ∃ t, exec (.samplePeriod (some x)) s = .next t ∧
        t.stu.ring = if 250 ≤ y.a.z then some ⟨y, y, y, y⟩ else none)) ∧
  ∀ (s : State) (x : Int × Int × Int), s.powered = true → s.mode = .startup → s.mlk.phase = .profileCheck →
    ∃ t, exec (.samplePeriod (some x)) s = .next t ∧ { t.stu with rate := s.stu.rate } = s.stu ∧
      { t with time := s.time, stu := s.stu, out := s.out } = s

/-- A result below S_TRIP in NORMAL or CAUTION trips: LATCHED when TRIP is SET, else TRIPPED, with the trip record of
the result, TRIP set, the permit released and the ceiling 0, and both admission records removed (R26, R28, R30, R31,
R39). Admission (R23, R24, R25): at an arrival's result a WAITING weeder record stays as it is while the extended
posture leaves less than S_ADMIT, with the result as ever, and is granted otherwise, which starts the extension when
the drive condition holds. A request makes or replaces its record with the posture evaluated, GRANTED when the band
does not stop and the held averages leave S_ADMIT or more, WAITING otherwise, and changes nothing else; a granted
posture is the one counted. An evaluation of a record that is not WAITING, or under TRIPPED or LATCHED, changes and
tells nothing; two WAITING records are evaluated one after the other in either order, which the model reads as a free
choice (log 9). A withdrawal ends the record, a started move the grant alone. The pair evaluated stays as the request
formed it (log 43). The mark of the hand-off bound (log 17) and the clock's move to the period (log 3) are the
model's. -/
def Obligations.LowMarginTrips : Prop :=
  (∀ (s : State) (q : Ring4) (x : Int × Int × Int) (old : Published), s.powered = true → s.mode ≠ .startup →
    s.stu.ring = some q → s.stu.published = some old → s.stu.band = .normal ∨ s.stu.band = .caution →
    let r := q.push (trimSample s.profile x)
    let m := margin s.profile r.anyClipped (composite s.stu.load) r.average
    250 ≤ r.average.z → m.sEff < s.profile.sTrip →
    let latched := (s.cdu.flags.get .trip).isSet
    ∃ t, exec (.samplePeriod (some x)) s = .next t ∧
      t.stu.band = (if latched then .latched else .tripped) ∧
      t.stu.trip = some { cause := .stability, s := m.s, sEff := m.sEff, axis := m.axis, side := m.side
                          clipped := m.clipped, sampleState := .fresh, latched } ∧
      (t.cdu.flags.get .trip).isSet = true ∧ (latched = true → (t.cdu.flags.get .latch).isSet = true) ∧
      t.out.driveEn = false ∧ (∀ p, t.stu.published = some p → p.c = 0) ∧
      (t.overrun = false → t.stu.weederAdm = none ∧ t.stu.prunerAdm = none)) ∧
  (∀ (s : State) (q : Ring4) (x : Int × Int × Int) (old : Published), s.powered = true → s.mode ≠ .startup →
    s.stu.ring = some q → s.stu.published = some old → s.stu.band = .normal →
    let r := q.push (trimSample s.profile x)
    let m := margin s.profile r.anyClipped (composite s.stu.load) r.average
    let extended := margin s.profile r.anyClipped (composite { s.stu.load with weeder := itemExtended s.profile }) r.average
    250 ≤ r.average.z → m.clipped.any = false → s.profile.sCaution ≤ m.sEff → s.profile.sTrip ≤ m.sEff →
    s.stu.weederAdm = some .waiting → s.stu.prunerAdm = none →
    let c := s.advance (s.time.sampleAt + s.samplePeriod)
    (extended.sEff < s.profile.sAdmit →
      exec (.samplePeriod (some x)) s =
        .next ({ c with
          time := { c.time with sampleAt := c.time.now }
          stu := { s.stu with
            rate := s.profile.sampleRate, ring := some r, held := some r.average, plausibleAt := c.time.now, stale := false
            lost := false, implausible := false
            published := some { margin := m, composite := composite s.stu.load, a := r.average, cause := .arrival
                                sampleState := .fresh, c := ceilingOf s.profile m.sEff } } } : State).finish) ∧
    (s.profile.sAdmit ≤ extended.sEff →
      ∃ t, exec (.samplePeriod (some x)) s = .next t ∧ (t.overrun = false → t.stu.weederAdm = none ∧
        (s.driveTerms.none = true → s.simMotion = false → s.wsq.arm = some .retracted → t.running = true →
          (t.wsq.arm = some .extending ∨ t.wsq.arm = some .extended) ∧ t.stu.load.weeder = itemExtended s.profile)))) ∧
  ∀ (s : State) (a : Axes) (p : Pair), s.stu.held = some a →
    let clipped := (s.stu.ring.map fun q => q.anyClipped).getD false
    let pair := s.prs.head.confirmed.max p
    let counted := fun (load : LoadTable) => (margin s.profile clipped (composite load) a).sEff
    let w := counted { s.stu.load with weeder := itemExtended s.profile }
    let h := counted { s.stu.load with head := itemHead s.profile pair }
    let asked := (handle (.ask .weeder p) s).1
    let raised := (handle (.ask .pruner p) s).1
    (asked = { s with stu := { s.stu with
      weederAdm := some (if s.stu.band.stops = false ∧ s.profile.sAdmit ≤ w then .granted else .waiting) } }) ∧
    (raised = { s with stu := { s.stu with
      prunerAdm := some ⟨p, pair, if s.stu.band.stops = false ∧ s.profile.sAdmit ≤ h then .granted else .waiting⟩ } }) ∧
    (asked.stu.weederAdm = some .granted →
      (handle (.reload .weeder) asked).1.stu.load.weeder = itemExtended s.profile) ∧
    (raised.stu.prunerAdm = some ⟨p, pair, .granted⟩ →
      (handle (.reload .head) raised).1.stu.load.head = itemHead s.profile pair) ∧
    (∀ r, s.stu.status r ≠ some .waiting → handle (.evalOne r) s = (s, [])) ∧
    (∀ r, s.stu.band.stops = true → handle (.evalOne r) s = (s, [])) ∧
    (s.stu.weederAdm = some .waiting → s.stu.band.stops = false →
      (handle (.evalOne .weeder) s).1.stu.weederAdm = some (if s.profile.sAdmit ≤ w then .granted else .waiting)) ∧
    (s.stu.status .weeder = some .waiting → s.stu.status .pruner = some .waiting →
      (handle .evalWaiting s).1 = { s with freeCount := s.freeCount + 1 } ∧
        ((handle .evalWaiting s).2 = [.evalOne .weeder, .evalOne .pruner] ∨
          (handle .evalWaiting s).2 = [.evalOne .pruner, .evalOne .weeder])) ∧
    (∀ r, (handle (.withdraw r) s).1 = { s with stu := s.stu.dropRecord r }) ∧
    ∀ r, (s.stu.status r = some .granted → (handle (.moveStarted r) s).1 = { s with stu := s.stu.dropRecord r }) ∧
      (s.stu.status r ≠ some .granted → (handle (.moveStarted r) s).1 = s)

/-- The stale and the lost episode (R14, R15, R30, R33): the published result's sample state follows, a recovery timer
stops, SENSOR_STALE and SENSOR_LOST are raised; a lost episode past STARTUP trips. The clock's move to the expiry is
the model's (log 3). -/
def Obligations.StaleAndLostEpisodes : Prop :=
  (∀ s : State, s.powered = true → s.stu.stale = false → s.stu.lost = false →
    (s.cdu.flags.get .sensorStale).isSet = false →
    exec .staleTimerExpiry s =
      .next ((({ s.advance (s.stu.plausibleAt + 3 * s.samplePeriod) with
        stu := { s.stu with stale := true, recovery := none
                            published := s.stu.published.map fun p => { p with sampleState := .stale } } } : State).raise
          .sensorStale (.minor (.stale s.stu.rate s.stu.implausible))).finish)) ∧
  ∀ s : State, s.powered = true → s.stu.stale = true → s.stu.lost = false →
    let u := s.advance (s.stu.plausibleAt + 250)
    (s.stu.published = none →
      exec .lostTimerExpiry s =
        .next ((({ u with stu := { s.stu with lost := true, recovery := none } } : State).raise .sensorLost
          (.sensorLost (u.time.now - s.stu.plausibleAt))).finish)) ∧
    (s.stu.published.isSome = true →
      ∃ t, exec .lostTimerExpiry s = .next t ∧ SameBase { u with stu := { s.stu with lost := true } } t ∧
        t.stu.band.stops = true ∧ t.out.driveEn = false ∧ (t.cdu.flags.get .sensorLost).isSet = true ∧
        (s.stu.band.stops = false → ∃ r, t.stu.trip = some r ∧ r.cause = .sensorLost ∧ r.sampleState = .lost))

/-- RECOVERY_EXPIRY with the pass not RUNNING: TRIPPED becomes CAUTION, the timer stops, the trip record goes, the
flags stay, the ceiling follows the latest S_EFF, the sections are decided (R34). CLEAR_LATCH: its tests in their
order and, with the pass not RUNNING, the state it leaves: CAUTION, no trip record, no recovery timer, the flags as
they were (R36). The clock's move to the expiry is the model's (log 3). -/
def Obligations.RecoveryAndClearLatch : Prop :=
  (∀ (s : State) (start : Nat) (r : Published), s.powered = true → s.stu.band = .tripped → s.stu.recovery = some start →
    s.stu.published = some r → s.running = false →
    exec .recoveryExpiry s =
      .next ({ s.advance (start + s.profile.recoverTime.toNat) with
        stu := { s.stu with band := .caution, trip := none, recovery := none
                            published := some { r with c := ceilingOf s.profile r.margin.sEff } }
        spg := { s.spg with sections := Six.all (.closed .notRunning) } } : State).finish) ∧
  (∀ (tag : Byte) (s : State), s.powered = true → s.mode = .idle ∨ s.mode = .pass →
    let f : Frame := ⟨0x12#8, tag, []⟩
    s.takes f = true →
    let u := takeFrame f s
    (s.pins.service = false → exec (.clearLatch tag []) s = .next (u.refusedWith f .keyRequired)) ∧
    (s.pins.service = true → s.stu.band ≠ .latched → exec (.clearLatch tag []) s = .next (u.refusedWith f .band)) ∧
    ∀ r, s.pins.service = true → s.stu.band = .latched → s.stu.published = some r →
      (r.sampleState ≠ .fresh ∨ r.margin.sEff < s.profile.sTrip + s.profile.hyst →
        exec (.clearLatch tag []) s = .next (u.refusedWith f .band)) ∧
      (r.sampleState = .fresh → s.profile.sTrip + s.profile.hyst ≤ r.margin.sEff → s.running = false →
        exec (.clearLatch tag []) s =
          .next (({ u with stu := { s.stu with band := .caution, trip := none, recovery := none
                                               published := some { r with c := ceilingOf s.profile r.margin.sEff } }
                           spg := { s.spg with sections := Six.all (.closed .notRunning) } } : State).replied f
            (.clearLatch .caution r.margin.sEff))))

/-- SET_PAYLOAD: four fields clamped to Table 1-1 become the PAYLOAD item; values already held start no computation,
and a change has its computation done before the reply (R7, R43). -/
def Obligations.SetPayloadClamps : Prop :=
  ∀ (tag m1 m0 x1 x0 y1 y0 h1 h0 : Byte) (s : State), s.powered = true → s.mode = .idle ∨ s.mode = .pass →
    let p : List Byte := [m1, m0, x1, x0, y1, y0, h1, h0]
    let f : Frame := ⟨0x11#8, tag, p⟩
    s.takes f = true →
    let u := takeFrame f s
    let m := signed16 (bigEndian [m1, m0])
    let x := signed16 (bigEndian [x1, x0])
    let y := signed16 (bigEndian [y1, y0])
    let h := signed16 (bigEndian [h1, h0])
    let item : LoadItem := ⟨max 0 (min 3000 m), max (-3000) (min 3000 x), max (-3000) (min 3000 y), max 0 (min 3000 h)⟩
    (item = s.stu.load.payload →
      exec (.setPayload tag p) s =
        .next (u.replied f (.setPayload item (item.m != m) (item.x != x) (item.y != y) (item.h != h) s.sEff s.stu.band))) ∧
    ∃ t, exec (.setPayload tag p) s = .next t ∧ t.stu.load.payload = item ∧
      SameBase { u with stu := { s.stu with load := { s.stu.load with payload := item } } } t ∧
      TxItem.ok 0x11#8 tag
        (.setPayload item (item.m != m) (item.x != x) (item.y != y) (item.h != h) t.sEff t.stu.band) 0 ∈ t.mlk.tx ∧
      (item ≠ s.stu.load.payload → s.stu.held.isSome = true →
        ∃ r, t.stu.published = some r ∧ r.cause = .load)

/-- DRIVE_EN# follows its three terms at the end of every step: released in STARTUP, PARKED and LOCKOUT, asserted in IDLE
and PASS under a band that does not stop once a frame has been heard, NO_PROFILE without effect on it (R39, R40). -/
def Obligations.DrivePermit : Prop :=
  (∀ (i : Instr) (s t : State), exec i s = .next t → t.powered = true →
    (t.out.driveEn = true ↔
      (t.mode = .idle ∨ t.mode = .pass) ∧ (t.stu.band = .normal ∨ t.stu.band = .caution) ∧ t.mlk.expired = false)) ∧
  (∀ s : State, s.powered = true → s.mode = .startup ∨ s.mode = .parked ∨ s.mode = .lockout → s.finish.out.driveEn = false) ∧
  (∀ (k tag : Byte) (p : List Byte) (s : State), s.powered = true → p.length ≤ 120 → s.mode = .idle ∨ s.mode = .pass →
    s.stu.band = .normal ∨ s.stu.band = .caution → s.mlk.rxBuf.length < 4 →
    ∃ t, exec (.validFrame k tag p) s = .next t ∧ t.out.driveEn = true) ∧
  ∀ (s : State) (n : Bool), ({ s with noProfile := n } : State).finish.out.driveEn = s.finish.out.driveEn

/-! ### Outputs and conditions -/

/-- The blade (R125): on while the arm that the sequencer runs is EXTENDING or EXTENDED, the pass RUNNING and TOOLS
not simulated; under a code that simulates TOOLS its commanded state alone follows, which WEEDER_READ reports. -/
def Obligations.BladeOutput : Prop :=
  (∀ (i : Instr) (s t : State), exec i s = .next t → t.powered = true →
    (t.out.blade = true ↔
      (t.armNow = some .extending ∨ t.armNow = some .extended) ∧ t.mode = .pass ∧
        (∃ p, t.psc.pass = some p ∧ p.suspension = none) ∧ t.rehearsal < 2)) ∧
  ∀ (tag : Byte) (s : State), s.powered = true → s.mode = .idle ∨ s.mode = .pass → s.takes ⟨0x41#8, tag, []⟩ = true →
    ∃ r, exec (.weederRead tag []) s = .next ((takeFrame ⟨0x41#8, tag, []⟩ s).replied ⟨0x41#8, tag, []⟩ (.weederRead r)) ∧
      (r.bladeCommanded = true ↔ (s.armNow = some .extending ∨ s.armNow = some .extended) ∧ s.running = true) ∧
      (2 ≤ s.rehearsal → r.blade = false) ∧ (s.rehearsal < 2 → r.blade = r.bladeCommanded)

/-- The other actuator outputs at the end of every step: the cutters exactly those that the step of the run names, in
its DWELL, the run not suspended, the pass RUNNING and TOOLS not simulated, and off otherwise; each section on exactly
while OPEN under rehearsal code 0; ARM_OUT and ARM_IN by the arm's state, never together; everything off outside IDLE
and PASS (R39, R121, R143, R154, R198). -/
def Obligations.ActuatorOutputs : Prop :=
  ∀ (i : Instr) (s t : State), exec i s = .next t → t.powered = true →
    let valve := fun (x : Section) => (t.mode = .idle ∨ t.mode = .pass) ∧ t.rehearsal = 0 ∧ x = .opened
    (t.mode ≠ .idle → t.mode ≠ .pass → t.out.quiet = true) ∧ (t.out.armOut && t.out.armIn) = false ∧
    (t.out.armOut = true ↔ t.drives = true ∧ t.rehearsal ≠ 3 ∧ (t.wsq.arm = some .extending ∨ t.wsq.arm = some .extended)) ∧
    (t.out.armIn = true ↔ t.drives = true ∧ t.rehearsal ≠ 3 ∧ (t.wsq.arm = some .retracting ∨ t.wsq.arm = some .stalled)) ∧
    (t.out.cut ≠ Cutters.off →
      t.running = true ∧ t.rehearsal < 2 ∧
      ∃ r st, t.prs.run = some r ∧ r.phase = .dwell ∧ r.suspended = false ∧ t.prs.step r = some st ∧ t.out.cut = st.cutters) ∧
    (∀ r st, t.prs.run = some r → r.phase = .dwell → r.suspended = false → t.prs.step r = some st → t.running = true →
      t.rehearsal < 2 → t.out.cut = st.cutters) ∧
    (t.out.sections.l1 = true ↔ valve t.spg.sections.l1) ∧ (t.out.sections.l2 = true ↔ valve t.spg.sections.l2) ∧
    (t.out.sections.l3 = true ↔ valve t.spg.sections.l3) ∧ (t.out.sections.r1 = true ↔ valve t.spg.sections.r1) ∧
    (t.out.sections.r2 = true ↔ valve t.spg.sections.r2) ∧ (t.out.sections.r3 = true ↔ valve t.spg.sections.r3)

/-- ALERT# (R192): at the end of every step it is asserted exactly while a flag is SET with class URGENT; an
occurrence at a SET flag leaves it; each reset makes every flag CLEAR, with the line released. -/
def Obligations.AlertLine : Prop :=
  (∀ (i : Instr) (s t : State), exec i s = .next t → t.powered = true →
    (t.out.alert = true ↔ ∃ f, (t.cdu.flags.get f).isSet = true ∧ (t.cdu.flags.get f).cls = .urgent)) ∧
  (∀ (f : Flag) (d : Detail) (s : State), (s.cdu.flags.get f).isSet = true →
    (s.raise f d).cdu.flags.alert = s.cdu.flags.alert) ∧
  (∀ (f : Flag) (d : Detail) (s : State), (s.cdu.flags.get f).isSet = false → (s.cdu.flags.get f).cls = .urgent →
    (s.raise f d).cdu.flags.alert = true) ∧
  (∀ (m : Mode) (s : State), ({ s with psc := { s.psc with mode := m } } : State).finish.out.alert = s.finish.out.alert) ∧
  (∀ s t : State, exec .powerOn s = .next t → t.out.alert = false) ∧
  (∀ s t : State, s.powered = true → exec .resetLine s = .next t → t.out.alert = false) ∧
  ∀ s : State, s.resetBlocks.cdu.flags.alert = false

/-- An occurrence at a flag (R191): the flag is SET with the occurrence's detail, its class and every other flag as
they were; a notice goes to the link when the flag was CLEAR and its class reports, past STARTUP, and is held through
STARTUP; when sixteen wait it is lost and counted (R202). ACK_CONDITIONS (R193): the named flags become CLEAR, the
others and every class stay, no owner's state changes; a set that names a flag outside the 25 clears nothing.
SET_CONDITION_CLASS (R194): the class of the one flag, its state and detail kept, no notice; a flag outside the 25 or
a class outside the three is refused. -/
def Obligations.FlagsAreRaisedClearedAndClassed : Prop :=
  (∀ (f : Flag) (d : Detail) (s : State),
    let t := s.raise f d
    (t.cdu.flags.get f).detail = some d ∧ (t.cdu.flags.get f).cls = (s.cdu.flags.get f).cls ∧
    (∀ g, g ≠ f → t.cdu.flags.get g = s.cdu.flags.get g) ∧
    ((s.cdu.flags.get f).isSet = true ∨ (s.cdu.flags.get f).cls = .off → t.mlk = s.mlk ∧ t.cdu.held = s.cdu.held) ∧
    ((s.cdu.flags.get f).isSet = false → (s.cdu.flags.get f).cls ≠ .off → s.mode ≠ .startup →
      t.cdu.held = s.cdu.held ∧
      (if (s.mlk.tx.filter TxItem.isNotice).length < 16
       then t.mlk = { s.mlk with tx := s.mlk.tx ++ [.notice f (s.cdu.flags.get f).cls d] }
       else t.mlk = { s.mlk with lostNotices := min 65535 (s.mlk.lostNotices + 1) } ∨ 65535 < s.mlk.lostNotices)) ∧
    ((s.cdu.flags.get f).isSet = false → (s.cdu.flags.get f).cls ≠ .off → s.mode = .startup →
      t.mlk = s.mlk ∧ t.cdu.held = s.cdu.held ++ [(f, (s.cdu.flags.get f).cls, d)]) ∧
    { t with cdu := s.cdu, mlk := s.mlk } = s) ∧
  (∀ (tag b3 b2 b1 b0 : Byte) (s : State), s.powered = true → s.mode = .idle ∨ s.mode = .pass →
    let p : List Byte := [b3, b2, b1, b0]
    let f : Frame := ⟨0x06#8, tag, p⟩
    s.takes f = true →
    let u := takeFrame f s
    let set := bigEndian p
    (2 ^ 25 ≤ set → exec (.ackConditions tag p) s = .next (u.refusedWith f .outOfRange)) ∧
    (set < 2 ^ 25 →
      ∃ flags : Flags,
        exec (.ackConditions tag p) s =
          .next (({ u with cdu := { s.cdu with flags } } : State).replied f (.ack flags.setFlags flags.alert)) ∧
        ∀ g : Flag, (flags.get g).cls = (s.cdu.flags.get g).cls ∧
          (flags.get g).detail = if set.testBit (g.number - 1) then none else (s.cdu.flags.get g).detail)) ∧
  (∀ (tag n c : Byte) (s : State), s.powered = true → s.mode = .idle ∨ s.mode = .pass →
    let f : Frame := ⟨0x07#8, tag, [n, c]⟩
    s.takes f = true →
    let u := takeFrame f s
    ((n.toNat = 0 ∨ 25 < n.toNat ∨ 2 < c.toNat) →
      exec (.setConditionClass tag [n, c]) s = .next (u.refusedWith f .outOfRange)) ∧
    ∀ (g : Flag) (k : FlagClass), n.toNat = g.number → c.toNat = k.code →
      ∃ flags : Flags,
        exec (.setConditionClass tag [n, c]) s =
          .next (({ u with cdu := { s.cdu with flags } } : State).replied f
            (.setClass g k (s.cdu.flags.get g).isSet)) ∧
        flags.get g = { s.cdu.flags.get g with cls := k } ∧ ∀ h, h ≠ g → flags.get h = s.cdu.flags.get h)

/-- Lockout is left by the supply and the RESET# line alone: in LOCKOUT every other row keeps the mode and every
actuator output off, with the permit released; no message goes out on the head link, and the head, its issued pair and
its state among it, and the arm with its deadline stay as they were (R127, R149, R197, R198; the record of the sent
messages is the model's, log 52). A repeat of a minor fault whose flag is SET is an occurrence of FAULT_MAJOR, and one
at FAULT_MAJOR already SET locks the part out: a second arm timeout in IDLE with both flags SET (R195, R196, R197).
The mark of the hand-off bound is the model's (log 17). -/
def Obligations.LockoutIsAbsorbing : Prop :=
  ((∀ (s t : State) (i : Instr) (rest : List Instr), s.pending = i :: rest → endsModes i = false → s.powered = true →
    s.mode = .lockout → step s = .next t →
    t.powered = true ∧ t.mode = .lockout ∧ t.out.quiet = true ∧ t.out.headTxd = s.out.headTxd ∧ t.prs.head = s.prs.head ∧
      t.wsq.arm = s.wsq.arm ∧ t.wsq.deadline = s.wsq.deadline) ∧
  ∀ (f : Frame) (i : Instr) (s : State), frameOf i = some f → s.powered = true → s.mode = .lockout → s.takes f = true →
    f.kind ∉ lockoutKinds → exec i s = .next ((takeFrame f s).refusedWith f .wrongMode)) ∧
  (∀ (s : State) (d : Nat), s.powered = true → s.mode = .idle → s.wsq.deadline = some d →
    s.wsq.arm = some .extending ∨ s.wsq.arm = some .retracting →
    (s.cdu.flags.get .armTimeout).isSet = true → (s.cdu.flags.get .faultMajor).isSet = true →
    ∃ t, exec .armDeadlineExpiry s = .next t ∧ (t.overrun = false → t.mode = .lockout) ∧
      (t.mode = .lockout → t.out.quiet = true) ∧ (t.overrun = false → t.wsq.stall = true))

/-! ### Position, trunks and the bay map -/

/-- The phase pair (R46): a pulse is a change of exactly one phase, forward through 00, 10, 11, 01, 00 and reverse
through the opposite order; a change of both counts nothing; the new pair becomes the last seen, in every mode;
POWER_ON and RESET_LINE take the pair on the pins, which follow the wiring (log 6), and count nothing. Pulses and the
row position (R47): the prescaler stays within P - 1 either way; at P it returns to 0 and RPC moves one pitch, at
either end of its range RPC holds and the pitch is lost; otherwise P times RPC plus the prescaler follows the pulses.
ENCODER_TRANSITION does this in every mode; outside a pass no block but ODU acts on it. A change of RPC in a pass: the
furthest count follows a rise, and in a RUNNING pass a fall of more than REVERSE_LIMIT below it suspends the pass with
REVERSE_STOP (R51). Every cursor takes its map position and resolution (R73, R74); a tool's VISITED flag is set
exactly at an exit through the far end with the tool selected (R81), and a selected tool's entry into MISS raises
MAP_MISS (R75). Unless the SPRAY cursor crosses, the open record stays, its open length one more at a rise with a
section OPEN (R166, past its top too: log 56). While the pass is RUNNING no due entry of the weeder's queue is left:
without one, queue and intent stay; a RETRACT turns the intent IN and drops a DEFERRED EXTEND, an EXTEND turns it OUT,
clears its trunk's claim and raises the cleared-to position (R115, R116). The orders of crossings (log 9) and of the
blocks (log 10) and the mark of the hand-off bound (log 17) are the model's. -/
def Obligations.PulsesMoveTheRowPosition : Prop :=
  ((phaseStep false false true false = 1 ∧ phaseStep true false true true = 1 ∧ phaseStep true true false true = 1 ∧
    phaseStep false true false false = 1) ∧
  (∀ a b a' b' : Bool, phaseStep a' b' a b = -phaseStep a b a' b' ∧ phaseStep a b (!a) (!b) = 0 ∧ phaseStep a b a b = 0 ∧
    phaseStep a b (!a) b ≠ 0 ∧ phaseStep a b a (!b) ≠ 0) ∧
  (∀ (a b : Bool) (s : State), s.powered = true →
    ∃ t, exec (.encoderTransition a b) s = .next t ∧ t.odu.encA = a ∧ t.odu.encB = b ∧
      t.pins = { s.pins with encA := a, encB := b } ∧
      (phaseStep s.odu.encA s.odu.encB a b = 0 → { t with odu := s.odu, pins := s.pins, out := s.out } = s ∧
        t.odu = { s.odu with encA := a, encB := b }) ∧
      (phaseStep s.odu.encA s.odu.encB a b ≠ 0 →
        t.odu.prescaler =
          (({ s.odu with encA := a, encB := b } : Odu).pulse s.profile.prescale
            (phaseStep s.odu.encA s.odu.encB a b)).1.prescaler)) ∧
  (∀ s t : State, s.powered = true → exec .resetLine s = .next t →
    t.odu.encA = s.pins.encA ∧ t.odu.encB = s.pins.encB ∧ t.odu.prescaler = 0 ∧ t.odu.rpc = 0) ∧
  ∀ s t : State, exec .powerOn s = .next t →
    t.odu.encA = s.pins.encA ∧ t.odu.encB = s.pins.encB ∧ t.odu.prescaler = 0 ∧ t.odu.rpc = 0) ∧
  ((∀ (o : Odu) (p step : Int), 1 ≤ p → -p < o.prescaler → o.prescaler < p → o.rpc ≤ 1048575 → step = 1 ∨ step = -1 →
    let r := (o.pulse p step).1
    let lost := (o.prescaler + step = p ∧ o.rpc = 1048575) ∨ (o.prescaler + step = -p ∧ o.rpc = 0)
    r.rpc ≤ 1048575 ∧ -p < r.prescaler ∧ r.prescaler < p ∧
    (o.prescaler + step = p → o.rpc < 1048575 → r.prescaler = 0 ∧ r.rpc = o.rpc + 1 ∧ r.direction = .forward) ∧
    (o.prescaler + step = -p → 0 < o.rpc → r.prescaler = 0 ∧ r.rpc + 1 = o.rpc ∧ r.direction = .reverse) ∧
    (lost → r = { o with prescaler := 0 }) ∧
    (¬lost → p * r.rpc + r.prescaler = p * o.rpc + o.prescaler + step) ∧
    (p = 4 → o.prescaler = 3 → step = -1 → r.prescaler = 2 ∧ r.rpc = o.rpc)) ∧
  (∀ (s : State) (p : PassRecord), (s.openPass p).odu.prescaler = 0 ∧ (s.openPass p).odu.rpc = 0) ∧
  (∀ (a b : Bool) (s : State), s.powered = true →
    let step := phaseStep s.odu.encA s.odu.encB a b
    let r := (({ s.odu with encA := a, encB := b } : Odu).pulse s.profile.prescale step).1
    let pins : Pins := { s.pins with encA := a, encB := b }
    step ≠ 0 →
    ∃ t, exec (.encoderTransition a b) s = .next t ∧ SameBase { s with odu := r, pins } t ∧ t.odu.rpc = r.rpc ∧
      (s.mode ≠ .pass → { t with odu := s.odu, pins := s.pins, out := s.out } = s ∧ t.odu = r)) ∧
  ∀ (a b rose : Bool) (s : State), s.powered = true → s.mode = .pass →
    let x := ({ s.odu with encA := a, encB := b } : Odu).pulse s.profile.prescale (phaseStep s.odu.encA s.odu.encB a b)
    x.2 = some rose →
    let u : State := { s with odu := x.1, pins := { s.pins with encA := a, encB := b } }
    let due := u.wsq.queue.filter fun e => !e.deferred && decide (e.trigger ≤ (x.1.rpc : Int))
    let waiting := fun (v : State) => v.wsq.queue.filter fun e => !e.deferred
    ∃ t, exec (.encoderTransition a b) s = .next t ∧
      t.odu.furthest = (if rose then max s.odu.furthest x.1.rpc else s.odu.furthest) ∧
      (rose = false → s.running = true → s.profile.reverseLimit < (s.odu.furthest : Int) - x.1.rpc →
        t.running = false ∧ (t.cdu.flags.get .reverseStop).detail =
          some (.reverseStop x.1.rpc s.odu.furthest s.profile.reverseLimit)) ∧
      (t.overrun = false → t.mode = .pass →
        (∀ n, (t.mpu.cursor n).pos = some (u.cursorPos n) ∧ (t.mpu.cursor n).res = s.mpu.resolve (u.cursorPos n)) ∧
        (∀ (k : Tool) (j : Nat) (y : Bay), s.mpu.bay j = some y →
          let q := u.cursorPos (.tool k)
          ∃ y', t.mpu.bay j = some y' ∧
            (y'.visited.has k = true ↔ y.visited.has k = true ∨ (s.selected k = true ∧
              (s.mpu.cursor (.tool k)).res = .bay j ∧ s.mpu.resolve q ≠ .bay j ∧ y.stop ≤ q))) ∧
        (∀ k : Tool, s.selected k = true → (s.mpu.cursor (.tool k)).res ≠ .miss →
          (s.mpu.cursor (.tool k)).missStretch = false → s.mpu.resolve (u.cursorPos (.tool k)) = .miss →
          (t.cdu.flags.get .mapMiss).isSet = true) ∧
        (∀ o, s.spg.openRec = some o → s.mpu.resolve (u.cursorPos (.tool .spray)) = (s.mpu.cursor (.tool .spray)).res →
          ∃ o', t.spg.openRec = some o' ∧
            o'.openLength = o.openLength + (if rose = true ∧ s.openSections.any = true then 1 else 0)) ∧
        (t.running = true → t.dueAction = none ∧ (s.wsq.holdQueue = false →
          (due = [] → t.wsq.intent = s.wsq.intent ∧ waiting t = waiting u) ∧
          ∀ e, due = [e] →
            (e.kind = .retract → t.wsq.intent = .armIn ∧ t.wsq.queue = (waiting u).erase e) ∧
            (e.kind = .extend → t.wsq.intent = .armOut ∧ waiting t = (waiting u).erase e ∧
              (∃ c, t.wsq.clearedTo = some c ∧ e.trigger ≤ c) ∧
              ∀ z ∈ t.ttr.trunks, z.number = e.trunk → z.weederClaim = false)))))

/-- SPEED_RECORD (R49): the history takes RPC at its head, its oldest entry leaving; the speed is the newest entry
less the one twenty recordings older, times 5; the sections are decided. In a RUNNING pass they stand as the terms of
the new history say, where no term asks for the reservation, and as the terms of the next state say in every case;
outside one all are CLOSED (R154, R155). PASS_OPEN sets every entry to 0. The Spray Gate compares the speed with
SPRAY_MIN_SPEED and TRUNK_READ reports it. The clock's move to the recording (log 3) and the mark of the hand-off
bound (log 17) are the model's. -/
def Obligations.SpeedRecording : Prop :=
  (∀ s : State, s.powered = true → s.odu.history.length = 21 →
    ∃ t, exec .speedRecord s = .next t ∧ t.odu.history = s.odu.rpc :: s.odu.history.take 20 ∧ t.odu.history.length = 21 ∧
      t.odu.speed = ((s.odu.rpc : Int) - (s.odu.history.getD 19 0 : Nat)) * 5 ∧
      t.time.now = max s.time.now (s.time.speedAt + 10) ∧ t.time.speedAt = t.time.now ∧
      t.odu.rpc = s.odu.rpc ∧ t.odu.offset = s.odu.offset ∧ t.odu.prescaler = s.odu.prescaler ∧
      (s.running = false →
        { t with time := s.time, odu := s.odu, spg := s.spg, out := s.out } = s ∧
        t.spg = { s.spg with sections := Six.all (.closed .notRunning) }) ∧
      (let u : State := { s with odu := { s.odu with history := s.odu.rpc :: s.odu.history.take 20 } }
       (u.sprayTerms.sections.map fun x => x == .closed .reservation).any = false → t.spg.sections = u.sprayTerms.sections) ∧
      (t.overrun = false → t.spg.sections = t.sprayTerms.sections)) ∧
  (∀ (s : State) (p : PassRecord), (s.openPass p).odu.history = List.replicate 21 0 ∧ (s.openPass p).odu.speed = 0) ∧
  (∀ s : State, s.sprayTerms.speed = true ↔ s.profile.sprayMinSpeed ≤ s.odu.speed) ∧
  ∀ (tag n : Byte) (s : State), s.powered = true → s.mode = .idle ∨ s.mode = .pass → n.toNat ≤ 31 →
    s.takes ⟨0x50#8, tag, [n]⟩ = true →
    ∃ r, exec (.trunkRead tag [n]) s =
        .next ((takeFrame ⟨0x50#8, tag, [n]⟩ s).replied ⟨0x50#8, tag, [n]⟩ (.trunkRead r)) ∧ r.speed = s.odu.speed

/-- POST_CAPTURE in PASS (R53 to R56): a repeat within POST_WINDOW of the post reference, no bay near, a correction
clamped to POST_STEP, or a mismatch that leaves the offset; every one but a repeat becomes the post reference, and the
last post record describes it. Outside PASS an edge changes nothing. The boundary nearest to a map position: a start or
an end of a loaded bay, none nearer, the lower one when two are equally near (R53). That the correction recorded is the
clamped one even where the offset meets the end of its range is the model's reading (log 45). -/
def Obligations.PostCaptures : Prop :=
  (∀ s : State, s.powered = true →
    (s.mode ≠ .pass → exec .postCapture s = .next s.finish) ∧
    (s.mode = .pass → 0 ≤ s.profile.postWindow → 0 ≤ s.profile.postStep →
      let rpc := s.odu.rpc
      let q := clampMap (rpc + s.odu.offset)
      let near := s.odu.postRef.filter fun r => decide (natDistance rpc r ≤ s.profile.postWindow.toNat)
      let inReach := s.mpu.window.any fun y => decide (y.distance q ≤ s.profile.postWindow.toNat)
      ∃ t, exec .postCapture s = .next t ∧
        (∀ r, near = some r →
          t.odu = { s.odu with lastPost := some ⟨rpc, q, none, 0, .repeated⟩ } ∧ { t with odu := s.odu, out := s.out } = s) ∧
        (near = none → inReach = false →
          t.odu = { s.odu with lastPost := some ⟨rpc, q, none, 0, .noBay⟩, postRef := some rpc } ∧
          { t with odu := s.odu, out := s.out } = s) ∧
        (near = none → inReach = true → ∀ b, s.mpu.nearestBoundary q = some b →
          (s.profile.postWindow.toNat < natDistance b q →
            t.odu = { s.odu with lastPost := some ⟨rpc, q, some b, 0, .mismatch⟩, postRef := some rpc } ∧
            (t.cdu.flags.get .postMismatch).detail = some (.postMismatch rpc q b (natDistance b q))) ∧
          (natDistance b q ≤ s.profile.postWindow.toNat →
            let k := max (-s.profile.postStep) (min s.profile.postStep ((b : Int) - q))
            t.odu.lastPost = some ⟨rpc, q, some b, k, .corrected⟩ ∧ t.odu.postRef = some rpc ∧
            t.odu.offset = max (-1048575) (min 1048575 (s.odu.offset + k)))) ∧
        t.odu.rpc = s.odu.rpc ∧ t.odu.prescaler = s.odu.prescaler ∧ t.ttr.counter = s.ttr.counter)) ∧
  (∀ (m : Mpu) (q : Nat),
    (m.nearestBoundary q = none ↔ m.window = []) ∧
    ∀ b, m.nearestBoundary q = some b →
      (∃ y ∈ m.window, b = y.start ∨ b = y.stop) ∧
      ∀ y ∈ m.window, ∀ c, c = y.start ∨ c = y.stop →
        natDistance b q < natDistance c q ∨ (natDistance b q = natDistance c q ∧ b ≤ c))

/-- FEELER_CAPTURE (R58, R59, R60): ignored outside a pass with a cutting tool, and within TRUNK_SPACING of the
spacing reference or behind it; otherwise it becomes the reference and takes the counter's number. With a free place
the record stands in the list with the number, RPC as its position, the bay under the reference cursor and the claims
of the tools that take trunks: in a SUSPENDED pass that is the whole effect. In a RUNNING one the weeder queues it
with a RETRACT at the start and an EXTEND at the end of its zone when both lie ahead, merge with nothing and fit, and
leaves it unqueued while QUEUE holds the arm in (R110, R112); and the record is there too, under a valid profile and
distinct trunk numbers, when neither tool is done with it within the same step, under the model's bound (log 17). With
the list full the capture is lost with TRUNK_OVERFLOW. It completes in every case. -/
def Obligations.FeelerCaptures : Prop :=
  ∀ s : State, s.powered = true →
    (s.selected .weeder = false → s.selected .pruner = false → exec .feelerCapture s = .next s.finish) ∧
    (s.selected .weeder = true ∨ s.selected .pruner = true →
      (∀ r, s.ttr.spacing = some r → (s.odu.rpc : Int) < r + s.profile.trunkSpacing →
        exec .feelerCapture s = .next s.finish) ∧
      ((∀ r, s.ttr.spacing = some r → (r : Int) + s.profile.trunkSpacing ≤ s.odu.rpc) →
        let weeder := s.selected .weeder && !s.wsq.withheld
        let pruner := s.selected .pruner && s.prs.armed && !s.prs.fault
        let ttr : Ttr := { s.ttr with spacing := some s.odu.rpc, counter := (s.ttr.counter + 1) % 65536 }
        (∃ t, exec .feelerCapture s = .next t ∧ SameBase { s with ttr } t) ∧
        (weeder = false → pruner = false → exec .feelerCapture s = .next ({ s with ttr } : State).finish) ∧
        (weeder = true ∨ pruner = true → s.running = false → s.ttr.trunks.length < 32 →
          exec .feelerCapture s =
            .next ({ s with ttr :=
              { ttr with trunks := s.ttr.trunks ++
                  [{ number := s.ttr.counter, pos := s.odu.rpc, bay := (s.mpu.cursorBay .reference).map fun b => b.index
                     weederClaim := weeder, prunerClaim := pruner, outcome := none }] } } : State).finish) ∧
        (weeder = true → pruner = false → s.running = true → s.ttr.trunks.length < 32 →
          let start : Int := s.odu.rpc + s.profile.bladeLag - s.profile.clearBefore
          let stop : Int := s.odu.rpc + s.profile.bladeLag + s.profile.clearAfter
          let u : State := { s with ttr :=
            { ttr with trunks := s.ttr.trunks ++
                [{ number := s.ttr.counter, pos := s.odu.rpc, bay := (s.mpu.cursorBay .reference).map fun b => b.index
                   weederClaim := true, prunerClaim := false, outcome := none }] } }
          (s.wsq.holdQueue = true → exec .feelerCapture s = .next u.finish) ∧
          (s.wsq.holdQueue = false → (s.odu.rpc : Int) < start → s.wsq.queue.length ≤ 14 →
            (∀ e, s.wsq.queue.getLast? = some e → e.kind = .retract ∨ e.deferred = true ∨ e.trigger < start) →
            exec .feelerCapture s =
              .next ({ u with wsq := { s.wsq with queue := s.wsq.queue ++
                [⟨.retract, start, s.ttr.counter, false⟩, ⟨.extend, stop, s.ttr.counter, false⟩] } } : State).finish)) ∧
        (weeder = true ∨ pruner = true → s.running = true → s.ttr.trunks.length < 32 → s.profile.valid = true →
          (weeder = true → (∀ e ∈ s.wsq.queue, e.trunk ≠ s.ttr.counter) ∧
            (s.ttr.counter :: s.ttr.trunks.map fun x => x.number).Nodup ∧
            (s.wsq.queue.filter fun e => e.deferred).length ≤ 1) →
          (pruner = true → (s.prs.run ≠ none ∧ s.stu.prunerAdm = none ∧ ∀ r, s.prs.run = some r → r.halting = false) ∨
            (s.prs.run = none ∧ (∀ x ∈ s.ttr.trunks, x.prunerClaim = false) ∧ 0 < s.profile.pruneLag - s.profile.pruneLead)) →
          ∃ t, exec .feelerCapture s = .next t ∧
            (t.overrun = false →
              ({ number := s.ttr.counter, pos := s.odu.rpc, bay := (s.mpu.cursorBay .reference).map fun b => b.index
                 weederClaim := weeder, prunerClaim := pruner, outcome := none } : Trunk) ∈ t.ttr.trunks)) ∧
        (weeder = true ∨ pruner = true → 32 ≤ s.ttr.trunks.length →
          ∃ t, exec .feelerCapture s = .next t ∧
            (t.cdu.flags.get .trunkOverflow).detail = some (.trunkOverflow s.ttr.counter s.odu.rpc) ∧
            (weeder = false → t.ttr = { ttr with overflowed := true } ∧ t.prs.counts.missed = bump 65535 s.prs.counts.missed))))

/-- LOAD_BAYS in IDLE and in PASS (R68, R69, R70): a field out of range, an overlap or an index used twice refuses the
whole message. With less room than records the oldest bays leave, exactly as many as are missing, when every tool cursor
has passed each of them and no record is open for one; otherwise the message is FULL. Every record is added in its
place; outside PASS, or with no cursor in MISS, nothing else changes; in PASS a cursor in MISS that a new bay contains
crosses into it, its miss stretch ended. The mark of the hand-off bound is the model's (log 17). -/
def Obligations.LoadedBaysEnterTheWindow : Prop :=
  ∀ (tag : Byte) (p : List Byte) (s : State), s.powered = true → s.mode = .idle ∨ s.mode = .pass → 11 ≤ p.length →
    p.length ≤ 88 → p.length % 11 = 0 →
    let f : Frame := ⟨0x21#8, tag, p⟩
    s.takes f = true →
    let u := takeFrame f s
    (baysOfPayload p = none → exec (.loadBays tag p) s = .next (u.refusedWith f .outOfRange)) ∧
    ∀ bays, baysOfPayload p = some bays →
      (anyClash bays = true ∨ (bays.any fun b => b.clashes s.mpu.window) = true →
        exec (.loadBays tag p) s = .next (u.refusedWith f .overlap)) ∧
      (anyClash bays = false → (bays.any fun b => b.clashes s.mpu.window) = false →
        let need := s.mpu.window.length + bays.length - 64
        let gone := s.mpu.window.take need
        let count := s.mpu.window.length + bays.length - need
        let passed := fun b : Bay =>
          (∀ tool, ∃ q, (s.mpu.cursor (.tool tool)).pos = some q ∧ b.stop ≤ q) ∧
          ∀ r, s.spg.openRec = some r → r.bay ≠ some b.index
        ((∃ b ∈ gone, ¬passed b) → exec (.loadBays tag p) s = .next (u.refusedWith f .full)) ∧
        ((∀ b ∈ gone, passed b) →
          (s.mode = .idle ∨ (∀ n, (s.mpu.cursor n).res ≠ .miss) →
            ∃ window : List Bay,
              exec (.loadBays tag p) s =
                .next (({ u with mpu := { s.mpu with window } } : State).replied f
                  (.loadBays count (gone.map fun b => b.index))) ∧
              window.Perm (bays ++ s.mpu.window.drop need) ∧
              (s.mpu.window.Pairwise (fun a b => a.stop ≤ b.start) → window.Pairwise (fun a b => a.stop ≤ b.start))) ∧
          (s.mode = .pass →
            ∃ t, exec (.loadBays tag p) s = .next t ∧ SameBase u t ∧ t.mode = .pass ∧
              (t.overrun = false →
                t.mpu.window.Perm (bays ++ s.mpu.window.drop need) ∧
                TxItem.ok 0x21#8 tag (.loadBays count (gone.map fun b => b.index)) 0 ∈ t.mlk.tx ∧
                ∀ n b, (s.mpu.cursor n).res = .miss → s.mpu.resolve (s.cursorPos n) = .miss → b ∈ bays →
                  b.covers (s.cursorPos n) = true →
                  (t.mpu.cursor n).res = .bay b.index ∧ (t.mpu.cursor n).missStretch = false))))

/-- MAP_CLEAR (R71): every bay leaves in IDLE with MAPLOCK clear, MAPLOCK, the lock state and the held positions
staying; LOCKED with MAPLOCK set; refused by mode elsewhere. -/
def Obligations.MapClear : Prop :=
  ∀ (tag : Byte) (s : State), s.powered = true →
    let f : Frame := ⟨0x20#8, tag, []⟩
    let u := takeFrame f s
    (s.takes f = true →
    (s.mode = .idle → s.mpu.mapLock = false →
      exec (.mapClear tag []) s =
        .next (({ u with mpu := { s.mpu with window := [] } } : State).replied f (.mapClear s.mpu.window.length))) ∧
    (s.mode = .idle → s.mpu.mapLock = true → exec (.mapClear tag []) s = .next (u.refusedWith f .locked)) ∧
    (s.mode = .pass ∨ s.mode = .lockout → exec (.mapClear tag []) s = .next (u.refusedWith f .wrongMode)) ∧
    (s.mode = .startup → exec (.mapClear tag []) s = .next (u.refusedWith f .busy)) ∧
    (s.mode = .parked → exec (.mapClear tag []) s = .next (u.refusedWith f .parked))) ∧
    ∀ p, p ≠ [] → s.takes ⟨0x20#8, tag, p⟩ = true → s.mode = .idle → exec (.mapClear tag p) s =
      .next ((takeFrame ⟨0x20#8, tag, p⟩ s).refusedWith ⟨0x20#8, tag, p⟩ .badLength)

/-- SET_BAY_PERMIT and CONFIRM_BAY (R78, R82): the bay's code for the tool with its CONFIRMED flag cleared, or the
CONFIRMED flag set; LOCKED under PROTECT or MAPLOCK for the code alone; exactly so while no cursor stands in the bay.
The order of CONFIRM_BAY's tests is the model's (log 53). -/
def Obligations.BayPermitsAndConfirmation : Prop :=
  ∀ (tag i1 i0 tc c : Byte) (tool : Tool) (s : State), s.powered = true → s.mode = .idle ∨ s.mode = .pass →
    toolOfCode tc.toNat = some tool →
    let index := bigEndian [i1, i0]
    let f : Frame := ⟨0x23#8, tag, [i1, i0, tc, c]⟩
    let u := takeFrame f s
    let g : Frame := ⟨0x25#8, tag, [i1, i0, tc]⟩
    let v := takeFrame g s
    (s.takes f = true → ∀ code, Permit.ofCode c.toNat = some code →
      (index ≤ 4095 → s.mpu.bay index = none → exec (.setBayPermit tag f.payload) s = .next (u.refusedWith f .notFound)) ∧
      (4095 < index → exec (.setBayPermit tag f.payload) s = .next (u.refusedWith f .outOfRange)) ∧
      ∀ b, index ≤ 4095 → s.mpu.bay index = some b →
        (b.protect = true ∨ s.mpu.mapLock = true → exec (.setBayPermit tag f.payload) s = .next (u.refusedWith f .locked)) ∧
        (b.protect = false → s.mpu.mapLock = false → code ≠ b.permit tool → (∀ n, (s.mpu.cursor n).res ≠ .bay index) →
          ∃ m : Mpu, ∃ r, exec (.setBayPermit tag f.payload) s = .next (({ u with mpu := m } : State).replied f r) ∧
            m.bay index = some { b.setPermit tool code with confirmed := b.confirmed.set tool false } ∧
            (∀ j, j ≠ index → m.bay j = s.mpu.bay j) ∧ { m with window := s.mpu.window } = s.mpu)) ∧
    (s.takes g = true → index ≤ 4095 → s.mpu.bay index = none →
      exec (.confirmBay tag g.payload) s = .next (v.refusedWith g .notFound)) ∧
    ∀ b, s.takes g = true → index ≤ 4095 → s.mpu.bay index = some b → (s.mpu.cursor (.tool tool)).res ≠ .bay index →
      ∃ m : Mpu, exec (.confirmBay tag g.payload) s = .next (({ v with mpu := m } : State).replied g .confirmBay) ∧
        m.bay index = some { b with confirmed := b.confirmed.set tool true } ∧
        (∀ j, j ≠ index → m.bay j = s.mpu.bay j) ∧ { m with window := s.mpu.window } = s.mpu

/-- SET_BAY_PROTECT (R83), MAP_LOCK (R84), MAP_UNLOCK and KEY_CHANGE (R85): PROTECT of the one bay, MAPLOCK with or
without every PROTECT, MAPLOCK cleared with the key at SERVICE, the lock state following key and MAPLOCK. The number
in MAP_LOCK's reply (log 40) and the order of SET_BAY_PROTECT's tests (log 53) are the model's. -/
def Obligations.ProtectionAndTheMapLock : Prop :=
  ∀ (tag i1 i0 b0 : Byte) (s : State), s.powered = true → s.mode = .idle ∨ s.mode = .pass →
    let index := bigEndian [i1, i0]
    let f : Frame := ⟨0x24#8, tag, [i1, i0, b0]⟩
    let u := takeFrame f s
    let g : Frame := ⟨0x26#8, tag, [b0]⟩
    let v := takeFrame g s
    let h : Frame := ⟨0x27#8, tag, []⟩
    let w := takeFrame h s
    (s.takes f = true →
    (4095 < index ∨ 1 < b0.toNat → exec (.setBayProtect tag f.payload) s = .next (u.refusedWith f .outOfRange)) ∧
    (index ≤ 4095 → b0.toNat ≤ 1 → s.mpu.bay index = none →
      exec (.setBayProtect tag f.payload) s = .next (u.refusedWith f .notFound)) ∧
    (∀ b, index ≤ 4095 → b0.toNat ≤ 1 → s.mpu.bay index = some b →
      (s.mpu.mapLock = true → exec (.setBayProtect tag f.payload) s = .next (u.refusedWith f .locked)) ∧
      (s.mpu.mapLock = false →
        ∃ m : Mpu, exec (.setBayProtect tag f.payload) s = .next (({ u with mpu := m } : State).replied f .setBayProtect) ∧
          m.bay index = some { b with protect := b0.toNat == 1 } ∧ (∀ j, j ≠ index → m.bay j = s.mpu.bay j) ∧
          { m with window := s.mpu.window } = s.mpu))) ∧
    (s.takes g = true →
    (1 < b0.toNat → exec (.mapLock tag [b0]) s = .next (v.refusedWith g .outOfRange)) ∧
    (b0.toNat = 1 → s.mpu.mapLock = true → exec (.mapLock tag [b0]) s = .next (v.refusedWith g .locked)) ∧
    (b0.toNat = 1 → s.mpu.mapLock = false →
      ∃ t, exec (.mapLock tag [b0]) s = .next t ∧ t.mpu.mapLock = true ∧
        t.mpu.window = s.mpu.window.map (fun b => { b with protect := true }) ∧ t.lock ≠ .unlocked ∧
        TxItem.ok 0x26#8 tag (.mapLock t.lock (s.mpu.window.filter fun b => !b.protect).length) 0 ∈ t.mlk.tx ∧
        { t with mpu := v.mpu, mlk := v.mlk, out := v.out } = v) ∧
    (b0.toNat = 0 →
      exec (.mapLock tag [b0]) s =
        .next (({ v with mpu := { s.mpu with mapLock := true } } : State).replied g
          (.mapLock (if s.pins.service then .soft else .hard) 0)))) ∧
    (s.takes h = true →
    (s.pins.service = false → exec (.mapUnlock tag []) s = .next (w.refusedWith h .keyRequired)) ∧
    (s.pins.service = true →
      exec (.mapUnlock tag []) s =
        .next (({ w with mpu := { s.mpu with mapLock := false } } : State).replied h .mapUnlock))) ∧
    ∀ key : Bool, exec (.keyChange key) s = .next ({ s with pins := { s.pins with service := key } } : State).finish ∧
      ({ s with pins := { s.pins with service := key } } : State).lock =
        if s.mpu.mapLock then (if key then .soft else .hard) else .unlocked

/-! ### Passes and modes -/

/-- The fields of a PASS_OPEN without SPRAY, in the order of Table 11-8 (R91). PASS_OPEN (R50, R86, R91, R92, R93,
R207): its tests in their order; an accepted one sets count, offset, posts and trunk numbering afresh from its fields;
over an empty window, with the arm in and no trunk left, the pass is RUNNING with every tool cursor in MISS. -/
def Obligations.PassOpening : Prop :=
  (∀ (r1 r0 p1 p0 s3 s2 s1 s0 tools code : Byte),
    let bytes : List Byte := [r1, r0, p1, p0, s3, s2, s1, s0, tools, code]
    let start := bigEndian [s3, s2, s1, s0]
    (1 ≤ tools.toNat → tools.toNat ≤ 3 → code.toNat ≤ 3 → start ≤ 1048575 →
      passLengthOk bytes = true ∧
      passOfPayload bytes =
        some ({ row := 256 * r1.toNat + r0.toNat, passId := 256 * p1.toNat + p0.toNat, start
                tools := ⟨tools.getLsbD 0, tools.getLsbD 1, false⟩, rehearsal := code.toNat, spray := none
                suspension := none, suspendedAt := none, suspensions := 0 }, false)) ∧
    (tools.toNat = 0 ∨ 7 < tools.toNat ∨ 3 < code.toNat ∨ 1048575 < start → passOfPayload bytes = none) ∧
    ∀ (u1 u0 t1 t0 w1 w0 sec : Byte), sec.toNat < 64 → sec.toNat ≠ 0 →
      1000 ≤ bigEndian [w1, w0] → bigEndian [w1, w0] ≤ 4000 →
      ∃ secs, sectionsOfByte sec = some secs ∧
        sprayFieldsOf [u1, u0, t1, t0, w1, w0, sec] =
          some ({ product := bigEndian [u1, u0], rate := min 2000 (max 50 (bigEndian [t1, t0]))
                  spacing := bigEndian [w1, w0], sections := secs },
                decide (bigEndian [t1, t0] < 50) || decide (2000 < bigEndian [t1, t0]))) ∧
  (∀ (tag : Byte) (bytes : List Byte) (s : State), s.powered = true → s.mode = .idle → passLengthOk bytes = true →
    let f : Frame := ⟨0x30#8, tag, bytes⟩
    s.takes f = true →
    let u := takeFrame f s
    (s.lgs.profilePending = true → exec (.passOpen tag bytes) s = .next (u.refusedWith f .busy)) ∧
    (s.lgs.profilePending = false → passOfPayload bytes = none →
      exec (.passOpen tag bytes) s = .next (u.refusedWith f .outOfRange)) ∧
    ∀ p clamped, s.lgs.profilePending = false → passOfPayload bytes = some (p, clamped) →
      (s.noProfile = true → exec (.passOpen tag bytes) s = .next (u.refusedWith f .noProfile)) ∧
      (s.noProfile = false → s.stu.band.stops = true → exec (.passOpen tag bytes) s = .next (u.refusedWith f .band)) ∧
      (s.noProfile = false → s.stu.band.stops = false → p.tools.spray = true → s.spg.tank = none →
        exec (.passOpen tag bytes) s = .next (u.refusedWith f .noTank)) ∧
      (s.noProfile = false → s.stu.band.stops = false → p.tools.spray = true → s.spg.tank ≠ none →
        s.lgs.currentSlot = none → exec (.passOpen tag bytes) s = .next (u.refusedWith f .noRegistration)) ∧
      (s.noProfile = false → s.stu.band.stops = false → p.tools.spray = false → p.tools.pruner = true →
        s.prs.program = none → exec (.passOpen tag bytes) s = .next (u.refusedWith f .noProgram)) ∧
      (s.noProfile = false → s.stu.band.stops = false → s.toolTests p.tools = none →
        ∃ t, exec (.passOpen tag bytes) s = .next t ∧ SameBase (u.openPass p) t ∧
          t.odu.rpc = 0 ∧ t.odu.offset = p.start ∧ t.odu.prescaler = 0 ∧ t.odu.lastPost = none ∧ t.ttr.counter = 0 ∧
          t.ttr.spacing = none ∧
          (s.mpu.window = [] → s.ttr.trunks = [] → s.wsq.arm = some .retracted → s.stu.weederAdm = none →
            t.psc = ⟨.pass, some p, none⟩ ∧ (∀ tool, (t.mpu.cursor (.tool tool)).res = .miss) ∧
            t.mpu.reference.res = .miss ∧
            (p.tools.spray = true → ∃ r, t.spg.openRec = some r ∧ r.bay = none ∧ r.flags.mapMiss = true))))

/-- PASS_HOLD (R95, R97): in a SUSPENDED pass the cause becomes HOST and nothing else changes; in a RUNNING one the
pass is SUSPENDED with its position and count, the cause HOST unless the band stops the tools, and the reply carries
what then holds. -/
def Obligations.PassHold : Prop :=
  ∀ (tag : Byte) (p : PassRecord) (s : State), s.powered = true → s.mode = .pass → s.psc.pass = some p →
    let f : Frame := ⟨0x31#8, tag, []⟩
    s.takes f = true →
    let u := takeFrame f s
    (p.suspension ≠ none →
      exec (.passHold tag []) s =
        .next (({ u with psc := { s.psc with pass := some { p with suspension := some .host } } } : State).replied f
          (.passHold false (some .host) p.suspensions))) ∧
    (p.suspension = none →
      ∃ t p', exec (.passHold tag []) s = .next t ∧ SameBase u t ∧ t.mode = .pass ∧ t.running = false ∧
        t.psc.pass = some p' ∧ (p'.suspension = some .host ∨ p'.suspension = some .trip) ∧
        (t.stu.band.stops = false → p'.suspension = some .host) ∧ p'.suspendedAt = some s.odu.rpc ∧
        p'.suspensions = bump 65535 p.suspensions ∧ p'.tools = p.tools ∧ p'.row = p.row ∧
        TxItem.ok 0x31#8 tag (.passHold false p'.suspension p'.suspensions) 0 ∈ t.mlk.tx)

/-- PASS_RESUME (R51, R100, R101): WRONG_MODE in a RUNNING pass, then BAND, then BARRED_AHEAD; an accepted one makes
the pass RUNNING with the furthest count at RPC, unless the resume itself trips the band; exactly so with PRUNER alone
and no trunk left, where the weeder's rebuild leaves its queue empty, QUEUE lifted and its intent OUT (R113, R127). -/
def Obligations.PassResume : Prop :=
  ∀ (tag : Byte) (p : PassRecord) (s : State), s.powered = true → s.mode = .pass → s.psc.pass = some p →
    let f : Frame := ⟨0x32#8, tag, []⟩
    s.takes f = true →
    let u := takeFrame f s
    (p.suspension = none → exec (.passResume tag []) s = .next (u.refusedWith f .wrongMode)) ∧
    (p.suspension ≠ none → s.stu.band.stops = true → exec (.passResume tag []) s = .next (u.refusedWith f .band)) ∧
    (p.suspension ≠ none → s.stu.band.stops = false → s.barredAhead = true →
      exec (.passResume tag []) s = .next (u.refusedWith f .barredAhead)) ∧
    (p.suspension ≠ none → s.stu.band.stops = false → s.barredAhead = false →
      (∃ t, exec (.passResume tag []) s = .next t ∧ SameBase u t ∧ t.mode = .pass ∧ t.odu.furthest = s.odu.rpc ∧
        (t.running = true ∨ t.stu.band.stops = true)) ∧
      (p.tools.weeder = false → p.tools.spray = false → s.ttr.trunks = [] → s.prs.run = none → s.stu.weederAdm = none →
        s.wsq.arm = some .retracted → s.wsq.simArm = .retracted →
        exec (.passResume tag []) s =
          .next (({ u with psc := { s.psc with pass := some { p with suspension := none } }
                           odu := { s.odu with furthest := s.odu.rpc }
                           wsq := { s.wsq with queue := [], holdQueue := false, intent := .armOut }
                           spg := { s.spg with sections := Six.all (.closed .notRunning) } } : State).replied f
            (.passResume true none))))

/-- PASS_CLOSE (R62, R73, R86, R90, R104, R127, R149, R170): the mode is IDLE, and when every block has done its
end-of-pass work the pass record is the last pass record, the trunk list, the queue, the run, the open record and the
resolutions are gone, and the window, the cane program, the tank and the position stay. The mark of the hand-off bound
is the model's (log 17). -/
def Obligations.PassClosing : Prop :=
  ∀ (tag : Byte) (p : PassRecord) (s : State), s.powered = true → s.mode = .pass → s.psc.pass = some p →
    s.takes ⟨0x33#8, tag, []⟩ = true →
    ∃ t, exec (.passClose tag []) s = .next t ∧ SameBase (takeFrame ⟨0x33#8, tag, []⟩ s) t ∧ t.mode = .idle ∧
      t.odu.furthest = s.odu.furthest ∧
      (t.overrun = false →
        t.psc.pass = none ∧ t.psc.lastPass = some ⟨p, .closed⟩ ∧ t.ttr.trunks = [] ∧ t.ttr.overflowed = false ∧
        t.wsq.queue = [] ∧ t.wsq.intent = .armIn ∧ t.wsq.clearedTo = none ∧ t.wsq.fault = false ∧ t.prs.run = none ∧
        t.prs.fault = false ∧ t.spg.openRec = none ∧ (s.spg.openRec ≠ none → t.spg.reserved = false) ∧ t.spg.tank = s.spg.tank ∧
        t.spg.sections = Six.all (.closed .notRunning) ∧ (∀ n, (t.mpu.cursor n).res = .none) ∧
        t.mpu.window = s.mpu.window.map (fun b => { b with confirmed := ToolSet.empty }) ∧
        TxItem.ok 0x33#8 tag (.passClose (some ⟨p, .closed⟩) s.ttr.counter s.odu.rpc) 0 ∈ t.mlk.tx)

/-- TOOL_SET (R102, R103): an empty set or one outside the three tools is refused, the set held is accepted without
change, another replaces the tools of the pass. With SPRAY added it carries the four spray fields, and a payload without
them is BAD_LENGTH: fields out of range, no tank, no registration slot and no cane program refuse it in that order; an
accepted one writes the fields and opens a record for the SPRAY cursor's bay. The mark of the hand-off bound is the
model's (log 17). -/
def Obligations.ToolSetting : Prop :=
  (∀ (tag b : Byte) (p : PassRecord) (tools : ToolSet) (s : State), s.powered = true → s.mode = .pass →
    s.psc.pass = some p → (tools.spray = true → p.tools.spray = true) →
    let f : Frame := ⟨0x34#8, tag, [b]⟩
    s.takes f = true →
    let u := takeFrame f s
    (b.toNat = 0 ∨ 7 < b.toNat → (b.getLsbD 2 = true → p.tools.spray = true) →
      exec (.toolSet tag [b]) s = .next (u.refusedWith f .outOfRange)) ∧
    (toolSetOfByte b = some tools → tools ≠ ToolSet.empty →
      (tools = p.tools → exec (.toolSet tag [b]) s = .next (u.replied f (.toolSet (some p) false))) ∧
      (tools.pruner = true → p.tools.pruner = false → s.prs.program = none →
        exec (.toolSet tag [b]) s = .next (u.refusedWith f .noProgram)) ∧
      (tools ≠ p.tools → (tools.pruner = true → s.prs.program ≠ none) →
        ∃ t p', exec (.toolSet tag [b]) s = .next t ∧ SameBase u t ∧ t.mode = .pass ∧ t.psc.pass = some p' ∧
          p'.tools = tools ∧ p'.row = p.row ∧ p'.passId = p.passId ∧ p'.start = p.start ∧ p'.rehearsal = p.rehearsal ∧
          (t.overrun = false → tools.spray = false → p.tools.spray = true → p'.spray = none ∧ t.spg.openRec = none)))) ∧
  ∀ (tag b : Byte) (fields : List Byte) (p : PassRecord) (tools : ToolSet) (s : State), s.powered = true →
    s.mode = .pass → s.psc.pass = some p → toolSetOfByte b = some tools → tools.spray = true → p.tools.spray = false →
    let f : Frame := ⟨0x34#8, tag, b :: fields⟩
    s.takes f = true →
    let u := takeFrame f s
    let needsProgram := tools.pruner = true ∧ p.tools.pruner = false ∧ s.prs.program = none
    (fields.length ≠ 7 → exec (.toolSet tag (b :: fields)) s = .next (u.refusedWith f .badLength)) ∧
    (fields.length = 7 → sprayFieldsOf fields = none →
      exec (.toolSet tag (b :: fields)) s = .next (u.refusedWith f .outOfRange)) ∧
    ∀ spray clamped, fields.length = 7 → sprayFieldsOf fields = some (spray, clamped) →
      (s.spg.tank = none → exec (.toolSet tag (b :: fields)) s = .next (u.refusedWith f .noTank)) ∧
      (s.spg.tank ≠ none → s.lgs.currentSlot = none →
        exec (.toolSet tag (b :: fields)) s = .next (u.refusedWith f .noRegistration)) ∧
      (s.spg.tank ≠ none → s.lgs.currentSlot ≠ none → needsProgram →
        exec (.toolSet tag (b :: fields)) s = .next (u.refusedWith f .noProgram)) ∧
      (s.spg.tank ≠ none → s.lgs.currentSlot ≠ none → ¬needsProgram →
        ∃ t p', exec (.toolSet tag (b :: fields)) s = .next t ∧ SameBase u t ∧ t.mode = .pass ∧ t.psc.pass = some p' ∧
          p'.tools = tools ∧ p'.spray = some spray ∧ p'.row = p.row ∧ p'.passId = p.passId ∧ p'.start = p.start ∧
          p'.rehearsal = p.rehearsal ∧ TxItem.ok 0x34#8 tag (.toolSet (some p') clamped) 0 ∈ t.mlk.tx ∧
          (t.overrun = false →
            ∃ r, t.spg.openRec = some r ∧ ∀ i, r.bay = some i ↔ s.mpu.spray.res = .bay i))

/-- PARK and WAKE (R106, R107, R207): PARK is BUSY while the arm is not in or the head moves (R106) or a profile write
is pending (R207), and otherwise parks with every section closed; WAKE returns to IDLE, the permit by its terms. -/
def Obligations.ParkAndWake : Prop :=
  ∀ (tag : Byte) (s : State), s.powered = true →
    let f : Frame := ⟨0x03#8, tag, []⟩
    let u := takeFrame f s
    let g : Frame := ⟨0x04#8, tag, []⟩
    let v := takeFrame g s
    (s.takes f = true → s.mode = .idle →
      (s.wsq.arm ≠ some .retracted ∨ s.prs.head.state = .moving ∨ s.lgs.profilePending = true →
        exec (.park tag []) s = .next (u.refusedWith f .busy)) ∧
      (s.wsq.arm = some .retracted → s.prs.head.state ≠ .moving → s.lgs.profilePending = false →
        exec (.park tag []) s =
          .next (({ u with psc := { s.psc with mode := .parked }
                           spg := { s.spg with sections := Six.all (.closed .notRunning) } } : State).replied f
            (.park .parked)))) ∧
    (s.takes g = true → s.mode = .parked →
      exec (.wake tag []) s =
        .next (({ v with psc := { s.psc with mode := .idle }
                         spg := { s.spg with sections := Six.all (.closed .notRunning) } } : State).replied g
          (.wake .idle s.stu.band (!s.stu.band.stops && !v.mlk.expired) s.sEff)))

/-! ### Weeder, pruner, spray -/

/-- ARM_EXT and ARM_RET (R121, R122, R127, R129): an assertion completes the move that waits for it, and in every
other case the switch's level alone changes. An ended retraction has no deadline, leaves both drive outputs off and
reports the posture RETRACTED to the load (R4, R117); with nothing to drive out it is the whole effect, in a pass too,
when the load stood so already. ARM_DEADLINE_EXPIRY and SIM_ARM_MOVE_DONE (R120, R122, R123, R129): a move without its
switch leaves the arm STALLED and the weeder withheld, with ARM_TIMEOUT; a simulated move ends in its own state and
leaves the physical arm alone. The clock's move to the expiry is the model's (log 3). That ARM_TIMEOUT's detail
carries the ARM_TIME in force at the expiry is the model's choice (log 47). -/
def Obligations.ArmMoves : Prop :=
  ((∀ (b : Bool) (s : State), s.powered = true →
    (b = false ∨ s.armTakes = false ∨ s.wsq.arm ≠ some .extending →
      exec (.armExt b) s = .next ({ s with pins := { s.pins with armExt := b } } : State).finish)) ∧
  (∀ (b : Bool) (s : State), s.powered = true →
    (b = false ∨ s.armTakes = false ∨ (s.wsq.arm ≠ some .retracting ∧ s.wsq.arm ≠ some .stalled) →
      exec (.armRet b) s = .next ({ s with pins := { s.pins with armRet := b } } : State).finish)) ∧
  (∀ s : State, s.powered = true → s.armTakes = true → s.wsq.arm = some .extending →
    s.stu.load.weeder = itemExtended s.profile →
    exec (.armExt true) s =
      .next ({ s with pins := { s.pins with armExt := true }
                      wsq := { s.wsq with arm := some .extended, deadline := none } } : State).finish) ∧
  ∀ s : State, s.powered = true → s.armTakes = true → s.wsq.arm = some .retracting ∨ s.wsq.arm = some .stalled →
    s.stu.weederAdm = none → s.running = false ∨ s.selected .weeder = false ∨ s.permits .weeder = false →
    (∃ t, exec (.armRet true) s = .next t ∧ SameBase { s with pins := { s.pins with armRet := true } } t ∧
      t.wsq.arm = some .retracted ∧ t.wsq.deadline = none ∧ t.out.armIn = false ∧ t.out.armOut = false ∧
      t.stu.weederAdm = none ∧ t.stu.load.weeder = itemRetracted s.profile) ∧
    (s.stu.load.weeder = itemRetracted s.profile →
      s.running = false ∨ s.selected .weeder = false ∨ s.permission .weeder ≠ some .awaitConfirm →
      exec (.armRet true) s =
        .next ({ s with pins := { s.pins with armRet := true }
                        wsq := { s.wsq with arm := some .retracted, deadline := none } } : State).finish)) ∧
  ((∀ (s : State) (d : Nat), s.powered = true → s.wsq.deadline = some d → s.armTakes = true →
    s.wsq.arm = some .extending ∨ s.wsq.arm = some .retracting → s.pins.armRet = false → s.mode = .idle →
    s.stu.weederAdm = none → s.stu.load.weeder = itemExtended s.profile → (s.cdu.flags.get .armTimeout).isSet = false →
    exec .armDeadlineExpiry s =
      .next ((({ s.advance d with
        wsq := { s.wsq with arm := some .stalled, deadline := none, stall := true } } : State).raise .armTimeout
          (.minor (.arm (s.wsq.arm.getD .stalled) s.odu.rpc s.profile.armTime))).finish)) ∧
  ∀ (s : State) (d : Nat), s.powered = true → s.wsq.simDue = some d → s.simMotion = true →
    (s.wsq.simArm = .extending →
      exec .simArmMoveDone s =
        .next ({ s.advance d with wsq := { s.wsq with simArm := .extended, simDue := none } } : State).finish) ∧
    (s.wsq.simArm = .retracting →
      ∃ t, exec .simArmMoveDone s = .next t ∧ SameBase (s.advance d) t ∧ t.wsq.arm = s.wsq.arm ∧
        (s.running = false → s.stu.weederAdm = none →
          t.wsq = { s.wsq with simArm := .retracted, simDue := none } ∧ { t with wsq := s.wsq, time := s.time, out := s.out } = s)))

/-- HEAD_INPOS (R135, R136, R149, R151): its change to asserted ends a head move, or places an UNPLACED head, at the
issued pair, which is then settled; every other change is the level alone. The end of a move ends the MOVE of a run's
step when the head stands AT_TARGET at that step's targets, and not while it moves on (R142). HEAD_DEADLINE_EXPIRY and
SIM_HEAD_MOVE_DONE (R136, R137, R151): an expired move to another pair issues the rest pair, with one target message
for it; a rest move without its indication leaves the head UNPLACED with the pair bounded and HEAD_TIMEOUT; a
simulated move settles the simulated head alone. The model's choices in it: a head that takes no indication in STARTUP
and LOCKOUT (log 28), the clock's move to the expiry (log 3), the mark of the hand-off bound (log 17), the record of
sent messages (log 52). -/
def Obligations.HeadMoves : Prop :=
  (∀ (b : Bool) (s : State), s.powered = true →
    let u : State := { s with pins := { s.pins with headInpos := b } }
    (b = false ∨ s.pins.headInpos = true ∨ s.headTakes = false ∨ s.prs.head.state = .atTarget →
      exec (.headInpos b) s = .next u.finish) ∧
    (b = true → s.pins.headInpos = false → s.headTakes = true → s.prs.head.state ≠ .atTarget →
      (∃ t, exec (.headInpos b) s = .next t ∧ SameBase u t) ∧
      (s.prs.run = none → s.running = false → s.stu.prunerAdm = none →
        s.stu.load.head = itemHead s.profile s.prs.head.issued →
        exec (.headInpos b) s =
          .next ({ u with prs := { s.prs with
            head := ⟨.atTarget, s.prs.head.issued, s.prs.head.issued, true, none⟩ } } : State).finish))) ∧
  (∀ (s : State) (r : Run), s.prs.run = some r →
    (s.headNow.state ≠ .atTarget → handle .headDone s = (s, [])) ∧
    ∀ st, s.prs.step r = some st → s.headNow.state = .atTarget → r.phase = .move → r.deferred = false →
      r.suspended = false →
      handle .headDone s = (s, if st.target = s.headNow.issued then [.phaseEnd] else [])) ∧
  ((∀ (s : State) (d : Nat), s.powered = true → s.armTakes = true → s.prs.head.state = .moving →
    s.prs.head.deadline = some d →
    (∃ t, exec .headDeadlineExpiry s = .next t ∧ SameBase (s.advance d) t ∧
      (s.prs.head.issued ≠ Pair.rest → s.prs.run = none → s.running = false → t.overrun = false →
        t.prs.head.issued = Pair.rest ∧ t.prs.head.state = .moving ∧ t.prs.head.settled = false ∧
        t.out.headTxd = s.out.headTxd ++ [Pair.rest] ∧
        s.prs.head.confirmed.height ≤ t.prs.head.confirmed.height ∧ s.prs.head.issued.height ≤ t.prs.head.confirmed.height)) ∧
    (s.prs.head.issued = Pair.rest → s.prs.run = none → s.running = false → s.stu.prunerAdm = none →
      s.stu.load.head = itemHead s.profile (s.prs.head.confirmed.max Pair.rest) →
      (s.cdu.flags.get .headTimeout).isSet = false →
      exec .headDeadlineExpiry s =
        .next ((({ s.advance d with
          prs := { s.prs with head := ⟨.unplaced, Pair.rest, s.prs.head.confirmed.max Pair.rest, false, none⟩ } } : State).raise
            .headTimeout (.minor (.head Pair.rest (s.prs.head.confirmed.max Pair.rest) s.odu.rpc))).finish))) ∧
  ∀ (s : State) (d : Nat), s.powered = true → s.simMotion = true → s.prs.simHead.deadline = some d →
    s.prs.simHead.state = .moving → s.prs.run = none → s.running = false →
    exec .simHeadMoveDone s =
      .next ({ s.advance d with prs := { s.prs with
        simHead := ⟨.atTarget, s.prs.simHead.issued, s.prs.simHead.issued, true, none⟩ } } : State).finish)

/-- PHASE_TIMER_EXPIRY and STEP_WAIT_EXPIRY complete (R140 to R144, R146). At its timer's end a DELAY leads to MOVE:
the step's target is issued with one target message, when nothing has to be admitted (R135, R139); a DWELL with a step
behind it leads to that step's DELAY, cutters off; the last DWELL ends the run PRUNED; a HALTING run with a step left
ends SKIPPED, disarmed, with no claim left where the trunk numbers are distinct (R57). A BLOCKING mark ends the run
BLOCKED at the phase's end, and the wait of a DEFERRED step ends it ABANDONED. In each end no run of the trunk is
left, its record has no claim of the tool and the outcome, and its count has risen. The clock's move to the expiry
(log 3), the mark of the hand-off bound (log 17) and the record of sent messages (log 52) are the model's. -/
def Obligations.RunTimers : Prop :=
  ∀ (s : State) (r : Run), s.powered = true → s.prs.run = some r →
    let ended := fun (o : Outcome) (t : State) =>
      (∀ r', t.prs.run = some r' → r'.trunk ≠ r.trunk) ∧
      ∀ x ∈ t.ttr.trunks, x.number = r.trunk → x.prunerClaim = false ∧ x.outcome = some o
    let claimed := ((s.ttr.find r.trunk).any fun x => x.prunerClaim) = true
    (∀ d : Nat, r.timer = some d → ∃ t, exec .phaseTimerExpiry s = .next t ∧ SameBase (s.advance d) t) ∧
    (∀ (d : Nat) (st : Step), r.timer = some d → r.phase = .delay → r.blocking = false → s.prs.step r = some st →
      s.armTakes = true → st.target.height ≤ s.prs.head.confirmed.height → st.target.reach ≤ s.prs.head.confirmed.reach →
      s.stu.prunerAdm = none →
      let h := s.prs.head
      let base := if h.state = .moving then h.confirmed.max h.issued else h.confirmed
      let settled := h.settled && h.state != .moving
      (settled = false ∨ st.target ≠ base) → s.stu.load.head = itemHead s.profile (base.max st.target) →
      exec .phaseTimerExpiry s =
        .next ({ s.advance d with
          prs := { s.prs with
            run := some { r with phase := .move, timer := none }
            head := ⟨.moving, st.target, base, settled, some (max s.time.now d + s.profile.headTime.toNat)⟩ }
          out := { s.out with headTxd := s.out.headTxd ++ [st.target] } } : State).finish) ∧
    (∀ (d : Nat) (g : Program) (next : Step), r.timer = some d → r.phase = .dwell → r.blocking = false →
      r.halting = false → s.prs.program = some g → g.steps[r.step + 1]? = some next → next.delay ≠ 0 →
      ∃ t, exec .phaseTimerExpiry s = .next t ∧ t.out.cut = Cutters.off ∧
        t.prs.run = some { r with step := r.step + 1, phase := .delay
                                  timer := some (max s.time.now d + 10 * next.delay) } ∧
        { t.prs with run := s.prs.run } = s.prs ∧
        { t with prs := s.prs, time := s.time, out := s.out } = s ∧ t.time = { s.time with now := max s.time.now d }) ∧
    (∀ (d : Nat) (g : Program), r.timer = some d → r.phase = .dwell → r.blocking = false → s.prs.program = some g → claimed →
      ∃ t, exec .phaseTimerExpiry s = .next t ∧
        (t.overrun = false →
          (g.steps.length ≤ r.step + 1 → ended .pruned t ∧ bump 65535 s.prs.counts.pruned ≤ t.prs.counts.pruned) ∧
          (r.step + 1 < g.steps.length → r.halting = true →
            ended .skipped t ∧ bump 65535 s.prs.counts.skipped ≤ t.prs.counts.skipped) ∧
          (r.halting = true →
            t.prs.armed = false ∧
            ((s.ttr.trunks.map fun x => x.number).Nodup → t.prs.run = none ∧ ∀ x ∈ t.ttr.trunks, x.prunerClaim = false)))) ∧
    (∀ d : Nat, r.timer = some d → r.blocking = true → claimed →
      ∃ t, exec .phaseTimerExpiry s = .next t ∧
        (t.overrun = false → ended .blocked t ∧ bump 65535 s.prs.counts.blocked ≤ t.prs.counts.blocked)) ∧
    ∀ d : Nat, r.stepWait = some d → r.deferred = true →
      ∃ t, exec .stepWaitExpiry s = .next t ∧ SameBase (s.advance d) t ∧ t.time.now = max s.time.now d ∧
        (claimed → t.overrun = false →
          ended .abandoned t ∧ bump 65535 s.prs.counts.abandoned ≤ t.prs.counts.abandoned)

/-- WEEDER_RECOVER (R120, R124): BUSY unless the arm is RETRACTED; without STALL nothing changes; with it STALL goes,
FAULT and ARM_TIMEOUT stay, and in IDLE nothing else changes. That the arm tested is the physical one under code 3 too
is the model's choice (log 48). -/
def Obligations.WeederRecovery : Prop :=
  ∀ (tag : Byte) (s : State), s.powered = true → s.mode = .idle ∨ s.mode = .pass →
    let f : Frame := ⟨0x40#8, tag, []⟩
    s.takes f = true →
    let u := takeFrame f s
    (s.wsq.arm ≠ some .retracted → exec (.weederRecover tag []) s = .next (u.refusedWith f .busy)) ∧
    (s.wsq.arm = some .retracted → s.wsq.stall = false →
      exec (.weederRecover tag []) s = .next (u.replied f (.weederRecover (some .retracted) false s.wsq.fault))) ∧
    (s.wsq.arm = some .retracted → s.wsq.stall = true →
      (s.mode = .idle → s.stu.weederAdm = none →
        exec (.weederRecover tag []) s =
          .next (({ u with wsq := { s.wsq with stall := false } } : State).replied f
            (.weederRecover (some .retracted) false s.wsq.fault))) ∧
      ∃ t, exec (.weederRecover tag []) s = .next t ∧ SameBase u t ∧ t.wsq.stall = false ∧ t.wsq.fault = s.wsq.fault ∧
        ((s.cdu.flags.get .armTimeout).isSet = true → (t.cdu.flags.get .armTimeout).isSet = true) ∧
        (s.mode = .pass → s.wsq.fault = false →
          ∀ p, s.ttr.spacing = some p →
            ∃ c, t.wsq.clearedTo = some c ∧ (p : Int) + s.profile.bladeLag + s.profile.clearAfter ≤ c))

/-- PRUNE_PROGRAM, PRUNE_ARM and PRUNE_HALT (R132, R133, R134, R146): a program replaces the one held and arms the
tool, BUSY during a run; arming needs a program; a halt without a run disarms at once, with one it marks the step
HALTING, and a second one changes nothing. The mark of the hand-off bound is the model's (log 17). That PRUNE_ARM's
reply gives the head that the sequencer runs, under code 3 the simulated one, is the model's choice (log 48). -/
def Obligations.PruneCommands : Prop :=
  ∀ (tag : Byte) (bytes : List Byte) (s : State), s.powered = true → s.mode = .idle ∨ s.mode = .pass →
    let f : Frame := ⟨0x48#8, tag, bytes⟩
    let u := takeFrame f s
    let g : Frame := ⟨0x49#8, tag, []⟩
    let v := takeFrame g s
    let h : Frame := ⟨0x4A#8, tag, []⟩
    let w := takeFrame h s
    (s.takes f = true → programLengthOk bytes = true →
      (programOfPayload bytes = none → exec (.pruneProgram tag bytes) s = .next (u.refusedWith f .outOfRange)) ∧
      ∀ p, programOfPayload bytes = some p →
        (∀ st ∈ p.steps.dropLast, st.last = false) ∧
        (s.prs.run ≠ none → exec (.pruneProgram tag bytes) s = .next (u.refusedWith f .busy)) ∧
        (s.prs.run = none →
          exec (.pruneProgram tag bytes) s =
            .next (({ u with prs := { s.prs with program := some p, armed := true } } : State).replied f
              (.pruneProgram p.steps.length p.mode)))) ∧
    (s.takes g = true →
    (s.prs.program = none → exec (.pruneArm tag []) s = .next (v.refusedWith g .noProgram)) ∧
    (s.prs.program ≠ none → s.headNow.state ≠ .unplaced →
      exec (.pruneArm tag []) s =
        .next (({ v with prs := { s.prs with armed := true } } : State).replied g
          (.pruneArm true s.headNow.state s.prs.fault))) ∧
    (s.prs.program ≠ none → s.prs.head.state = .unplaced → s.mode = .idle → s.prs.run = none →
      ∃ t, exec (.pruneArm tag []) s = .next t ∧ SameBase v t ∧ t.prs.armed = true ∧ t.prs.head.issued = Pair.rest)) ∧
    (s.takes h = true →
    (s.prs.run = none → s.ttr.trunks = [] →
      s.headNow.state = .atTarget → s.headNow.confirmed = Pair.rest →
      exec (.pruneHalt tag []) s =
        .next (({ w with prs := { s.prs with armed := false } } : State).replied h (.pruneHalt false none))) ∧
    ∀ r, s.prs.run = some r →
      (r.halting = true →
        exec (.pruneHalt tag []) s = .next (w.replied h (.pruneHalt s.prs.armed (some (r.blocking, true))))) ∧
      (r.halting = false → r.deferred = false → s.running = true →
        exec (.pruneHalt tag []) s =
          .next (({ w with prs := { s.prs with run := some { r with halting := true } } } : State).replied h
            (.pruneHalt s.prs.armed (some (r.blocking, true))))) ∧
      (r.halting = false → r.deferred = true ∨ s.running = false →
        ∃ t, exec (.pruneHalt tag []) s = .next t ∧ SameBase w t ∧ (t.overrun = false → t.prs.armed = false)))

/-- FLOW_PULSE and FILL (R160, R163, R164): a pulse adds 1000 while that stays in range; without an open record, or
below FLOW_K, nothing is taken off, and with the reservation held, a section open and the tank's mass in whole
kilograms as it was, one millilitre for each FLOW_K reached leaves accumulator and tank for the open volume. FILL
outside a RUNNING pass makes the tank hold the quantity, at most 2,000,000 mL, and the density, and keeps the residual
alone. One millilitre off the accumulator (R160, R161, R162, R163): FLOW_K leaves it, one millilitre is charged to the
open volume while a section is open and to the closed one otherwise, and one leaves the tank or joins the overrun. A
reservation granted (R158, R160): the whole pending volume goes to the closed volume before any section opens. The
model's choices in it: the mark of the hand-off bound (log 17), nothing taken off while the log is halted or a count
stands at its highest value (log 39), a record opened at FLOW_K or more that seeks at the next pulse (log 57), the
reports of a grant after its last millilitre (log 62). -/
def Obligations.FlowFillAndTakeOff : Prop :=
  ((∀ s : State, s.powered = true → s.spg.openRec = none →
    exec .flowPulse s =
      .next ({ s with spg := { s.spg with
        acc := if s.spg.acc + 1000 ≤ 4294967295 then s.spg.acc + 1000 else s.spg.acc } } : State).finish) ∧
  (∀ s : State, s.powered = true →
    let k := Spg.flowUnit s.profile
    (∃ t, exec .flowPulse s = .next t ∧ SameBase s t) ∧
    (s.spg.acc + 1000 < k → s.spg.acc + 1000 ≤ 4294967295 →
      exec .flowPulse s = .next ({ s with spg := { s.spg with acc := s.spg.acc + 1000 } } : State).finish) ∧
    ∀ r q, s.spg.openRec = some r → s.spg.tank = some q → s.spg.reserved = true → s.lgs.halted = false →
      s.openSections.any = true → r.volOpen < 4294967295 → 1 < q.quantity →
      s.spg.acc + 1000 ≤ 4294967295 → k ≤ s.spg.acc + 1000 → s.spg.acc + 1000 < 2 * k →
      s.stu.load.tank = itemTank s.profile (some { q with quantity := q.quantity - 1 }) →
      exec .flowPulse s =
        .next ({ s with spg := { s.spg with
          acc := s.spg.acc + 1000 - k, tank := some { q with quantity := q.quantity - 1 }
          openRec := some { r with volOpen := r.volOpen + 1 } } } : State).finish) ∧
  ∀ (tag q3 q2 q1 q0 d1 d0 : Byte) (s : State), s.powered = true → s.mode = .idle ∨ s.mode = .pass →
    let bytes : List Byte := [q3, q2, q1, q0, d1, d0]
    let f : Frame := ⟨0x18#8, tag, bytes⟩
    s.takes f = true →
    let u := takeFrame f s
    let quantity := min 2000000 (bigEndian [q3, q2, q1, q0])
    let density := bigEndian [d1, d0]
    (s.running = true → exec (.fill tag bytes) s = .next (u.refusedWith f .wrongMode)) ∧
    (s.running = false → (density < 800 ∨ 1500 < density) →
      exec (.fill tag bytes) s = .next (u.refusedWith f .outOfRange)) ∧
    (s.running = false → 800 ≤ density → density ≤ 1500 →
      (∃ t, exec (.fill tag bytes) s = .next t ∧ SameBase u t ∧
        (t.overrun = false → t.spg.tank = some ⟨quantity, density⟩ ∧ t.spg.overrunVolume = 0 ∧
          t.spg.acc = s.spg.acc % Spg.flowUnit s.profile)) ∧
      (s.mode = .idle → s.spg.openRec = none →
        s.stu.load.tank = itemTank s.profile (some ⟨quantity, density⟩) →
        exec (.fill tag bytes) s =
          .next (({ u with spg := { s.spg with acc := s.spg.acc % Spg.flowUnit s.profile
                                               tank := some ⟨quantity, density⟩, overrunVolume := 0
                                               sections := Six.all (.closed .notRunning) } } : State).replied f
            (.fill quantity density (bigEndian [q3, q2, q1, q0] != quantity) none))))) ∧
  (∀ s : State, 0 < Spg.flowUnit s.profile →
    let t := (handle .takeOff s).1
    (t = s ∨
      ∃ r r' k k', s.spg.openRec = some r ∧ t.spg.openRec = some r' ∧ s.spg.tank = some k ∧ t.spg.tank = some k' ∧
        t.spg.acc + Spg.flowUnit s.profile = s.spg.acc ∧ r'.volOpen + r'.volClosed = r.volOpen + r.volClosed + 1 ∧
        (r'.volOpen = r.volOpen + 1 ↔ s.openSections.any = true) ∧
        (k.quantity = 0 → k'.quantity = 0 ∧ t.spg.overrunVolume = s.spg.overrunVolume + 1) ∧
        (0 < k.quantity → k'.quantity + 1 = k.quantity ∧ t.spg.overrunVolume = s.spg.overrunVolume) ∧
        k'.density = k.density ∧ { t with spg := s.spg } = s) ∧
    (s.spg.reserved = false ∨ s.lgs.halted = true ∨ s.spg.acc < Spg.flowUnit s.profile ∨ s.spg.openRec = none → t = s) ∧
    ∀ r k, s.spg.openRec = some r → s.spg.tank = some k → s.spg.reserved = true → s.lgs.halted = false →
      Spg.flowUnit s.profile ≤ s.spg.acc →
      (if s.openSections.any then r.volOpen < 4294967295 else r.volClosed < 4294967295) →
      (0 < k.quantity ∨ s.spg.overrunVolume < 4294967295) →
      t.spg.acc + Spg.flowUnit s.profile = s.spg.acc) ∧
  ∀ (s : State) (r : OpenRecord) (k : Tank), s.spg.openRec = some r → s.spg.tank = some k → s.spg.reserved = false →
    r.roomWait = false → s.lgs.halted = false → s.grantTest = true →
    let n := s.spg.acc / Spg.flowUnit s.profile
    r.volClosed + n ≤ 4294967295 → s.spg.overrunVolume + (n - k.quantity) ≤ 4294967295 →
    let t := (handle .seek s).1
    ∃ r' k', t.spg.openRec = some r' ∧ t.spg.tank = some k' ∧ t.spg.reserved = true ∧ t.spg.sections = s.spg.sections ∧
      t.spg.acc = s.spg.acc % Spg.flowUnit s.profile ∧ r'.volClosed = r.volClosed + n ∧ r'.volOpen = r.volOpen ∧
      k'.quantity = k.quantity - n ∧ t.spg.overrunVolume = s.spg.overrunVolume + (n - k.quantity) ∧
      { t with spg := s.spg } = s

/-- A section is OPEN exactly when all nine terms of R154 hold, and otherwise CLOSED with the first term that fails in
the order of Table 8-2; and each term is what R154 says of the state: the RUNNING pass with the spray gate, the pass's
sections, the mask and the permission at the spray cursor, the speed, the band, the tank, the log and the reservation.
-/
def Obligations.SectionDecision : Prop :=
  ∀ (t : SprayTerms) (selected inMask : Bool),
    (t.state selected inMask = .opened ↔
      t.running = true ∧ selected = true ∧ inMask = true ∧ t.permission = some .opened ∧ t.speed = true ∧ t.band = true ∧
        t.tank = true ∧ t.notHalted = true ∧ t.reserved = true) ∧
    (t.state selected inMask = .closed .notRunning ↔ t.running = false) ∧
    (t.state selected inMask = .closed .notSelected ↔ t.running = true ∧ selected = false) ∧
    (t.state selected inMask = .closed .notInMask ↔ t.running = true ∧ selected = true ∧ inMask = false) ∧
    (t.state selected inMask = .closed .permission ↔
      t.running = true ∧ selected = true ∧ inMask = true ∧ t.permission ≠ some .opened) ∧
    (t.state selected inMask = .closed .speed ↔
      t.running = true ∧ selected = true ∧ inMask = true ∧ t.permission = some .opened ∧ t.speed = false) ∧
    (t.state selected inMask = .closed .band ↔
      t.running = true ∧ selected = true ∧ inMask = true ∧ t.permission = some .opened ∧ t.speed = true ∧ t.band = false) ∧
    (t.state selected inMask = .closed .tank ↔
      t.running = true ∧ selected = true ∧ inMask = true ∧ t.permission = some .opened ∧ t.speed = true ∧ t.band = true ∧
        t.tank = false) ∧
    (t.state selected inMask = .closed .logHalt ↔
      t.running = true ∧ selected = true ∧ inMask = true ∧ t.permission = some .opened ∧ t.speed = true ∧ t.band = true ∧
        t.tank = true ∧ t.notHalted = false) ∧
    (t.state selected inMask = .closed .reservation ↔
      t.running = true ∧ selected = true ∧ inMask = true ∧ t.permission = some .opened ∧ t.speed = true ∧ t.band = true ∧
        t.tank = true ∧ t.notHalted = true ∧ t.reserved = false) ∧
    ∀ s : State,
      let u := s.sprayTerms
      (u.running = true ↔ s.running = true ∧ s.selected .spray = true) ∧
      (∀ p f, s.psc.pass = some p → p.spray = some f → u.selected = f.sections) ∧
      (∀ b, s.mpu.cursorBay (.tool .spray) = some b → u.mask = b.mask) ∧ u.permission = s.permission .spray ∧
      (u.speed = true ↔ s.profile.sprayMinSpeed ≤ s.odu.speed) ∧ (u.band = true ↔ s.stu.band.stops = false) ∧
      (u.tank = true ↔ ∃ k, s.spg.tank = some k ∧ 0 < k.quantity) ∧ (u.notHalted = true ↔ s.lgs.halted = false) ∧
      (u.reserved = true ↔ s.spg.reserved = true)

/-- The rate of a record (R169): open volume over treated ground rounded half up, at most 65535, absent without an
open length, computed at its close from the spacing and the target of the pass; RATE_DEVIATION by its percentage; the
worked case of 727 L/ha. -/
def Obligations.RateOfARecord : Prop :=
  (∀ v len w : Nat, (sprayRate v len w = none ↔ len * w = 0) ∧
    ∀ n, sprayRate v len w = some n →
      n ≤ 65535 ∧ 2 * n * (len * w) ≤ 2 * (v * 10000000) + len * w ∧
      (n < 65535 → 2 * (v * 10000000) + len * w < 2 * (n + 1) * (len * w))) ∧
  sprayRate 800 5000 2200 = some 727 ∧ rateDeviates Config.defaults 727 700 = false ∧
  (∀ (p : Profile) (rate target : Nat),
    (rateDeviates p rate target = true ↔ p.rateTol * target < ((rate : Int) - target).natAbs * 100) ∧
    (p.rateTol < 100 → 0 < target → rateDeviates p 0 target = true)) ∧
  (∀ len w : Nat, len * w ≠ 0 → sprayRate 0 len w = some 0) ∧
  ∀ (s : State) (r : OpenRecord) (p : PassRecord) (f : SprayFields), s.psc.pass = some p → p.spray = some f →
    (s.closed r).rate = sprayRate r.volOpen r.openLength f.spacing ∧
    (∀ n, (s.closed r).rate = some n → (s.closed r).flags.rateDeviation = rateDeviates s.profile n f.rate) ∧
    (s.spg.openRec = some r → s.spg.reserved = true → (handle .closeRecord s).2 = [.stage (s.closed r)])

/-! ### The store -/

/-- STORE_OPERATION_BEGIN and RECORD_WRITE_BEGIN (R175, R177, R179): a free store begins the oldest waiting request
that can begin, a record write passed over keeping its place; with an operation in progress nothing begins; a write
between attempts goes on once the room test holds. RECORD_WRITE_ATTEMPT_DONE (R176, R178, R179): a matching readback
writes the record into the next slot, which becomes the newest, and completes DONE; a failed one leaves a bad mark
there, and ends the write FAILED, with the log halted at a 33rd bad slot. No other slot changes. After the RESET# line
a write that ends DONE is written and reported as ever, and one that ends FAILED reports nothing (R175). The model's
choices in it: a slot that is PROGRAMMING from its operation's begin (log 13), which comes within the event (log 15),
the attempt count of a write that waits between attempts (log 59), the mark of the hand-off bound (log 17). -/
def Obligations.ArbiterAndRecordWrites : Prop :=
  ((∀ s : State, s.powered = true → s.lgs.op ≠ none → exec .storeOperationBegin s = .next s.finish) ∧
  (∀ (s : State) (k : Nat) (image : List Byte) (rest before : List Request), s.powered = true → s.lgs.op = none →
    s.lgs.waiting = before ++ .reg k image :: rest → (∀ r ∈ before, r = .record) → s.roomTest = false →
    exec .storeOperationBegin s =
      .next ({ s with lgs := { s.lgs with op := some (.reg k image .beginMark false), waiting := before ++ rest
                                          regStates := s.lgs.regStates.set k .programming } } : State).finish) ∧
  (∀ (s : State) (image : List Byte) (crc : Nat) (rest before : List Request), s.powered = true → s.lgs.op = none →
    s.lgs.waiting = before ++ .profile image crc :: rest → (∀ r ∈ before, r = .record) → s.roomTest = false →
    exec .storeOperationBegin s =
      .next ({ s with lgs := { s.lgs with op := some (.profile image crc false), waiting := before ++ rest } } : State).finish) ∧
  (∀ (s : State) (r : SprayRecord) (more : List SprayRecord) (rest : List Request), s.powered = true → s.lgs.op = none →
    s.lgs.waiting = .record :: rest → s.lgs.staging = r :: more → s.roomTest = true →
    exec .storeOperationBegin s = exec .recordWriteBegin s ∧
    exec .recordWriteBegin s =
      .next ({ s with lgs := { s.lgs with op := some (.record r 1 false false), waiting := rest } } : State).finish) ∧
  ∀ (s : State) (r : SprayRecord) (n : Nat), s.powered = true → s.lgs.op = some (.record r n true false) →
    (s.roomTest = true →
      exec .recordWriteBegin s =
        .next ({ s with lgs := { s.lgs with op := some (.record r n false false) } } : State).finish) ∧
    (s.roomTest = false → exec .recordWriteBegin s = .next s.finish)) ∧
  (∀ (s : State) (r : SprayRecord) (n : Nat) (cut : Bool), s.powered = true → s.lgs.op = some (.record r n false cut) →
    let slot := s.lgs.nextSlot
    (∃ t, exec (.recordWriteAttemptDone true) s = .next t ∧ LogRing.read t.store.ring slot = some (.record r) ∧
      (∀ k, k ≠ slot → LogRing.read t.store.ring k = LogRing.read s.store.ring k) ∧
      t.store.regs = s.store.regs ∧ t.store.image = s.store.image ∧ t.store.mark = s.store.mark ∧
      t.lgs.newestSeq = r.seq ∧ t.lgs.newestSlot = some slot ∧
      t.lgs.lastResult = some ⟨.record, some slot, true⟩ ∧ t.lgs.badCount = s.lgs.badCount ∧ t.lgs.released = s.lgs.released ∧
      (s.spg.openRec = none → s.lgs.waiting = [] → s.profile.logNear < ({ s.lgs with newestSeq := r.seq } : Lgs).free →
        t.lgs.op = none ∧ t.lgs.staging = s.lgs.staging.tail ∧ { t with lgs := s.lgs, store := s.store, out := s.out } = s) ∧
      (s.spg.openRec = none → ({ s.lgs with newestSeq := r.seq } : Lgs).free ≤ s.profile.logNear →
        (t.cdu.flags.get .logNearFull).isSet = true)) ∧
    (cut = true →
      ∃ t, exec (.recordWriteAttemptDone false) s = .next t ∧ LogRing.read t.store.ring slot = some .badMark ∧
        t.lgs.op = none ∧ t.lgs.lastResult = some ⟨.record, some slot, false⟩ ∧ t.lgs.badCount = s.lgs.badCount + 1 ∧
        { t with lgs := s.lgs, store := s.store, out := s.out } = s) ∧
    (cut = false → ∃ t, exec (.recordWriteAttemptDone false) s = .next t ∧ LogRing.read t.store.ring slot = some .badMark ∧
      (∀ k, k ≠ slot → LogRing.read t.store.ring k = LogRing.read s.store.ring k) ∧
      t.lgs.badCount = s.lgs.badCount + 1 ∧ t.lgs.newestSeq = s.lgs.newestSeq ∧ t.lgs.newestSlot = s.lgs.newestSlot ∧
      (s.lgs.badSet.length < 32 → t.lgs.badSet = s.lgs.badSet ++ [slot]) ∧
      (32 ≤ s.lgs.badSet.length → t.lgs.badSet = s.lgs.badSet ∧
        (t.overrun = false → t.lgs.halted = true ∧ (t.cdu.flags.get .faultMajor).isSet = true)) ∧
      (32 ≤ s.lgs.badSet.length ∨ (s.cdu.flags.get .logRetry).isSet = true →
        t.lgs.lastResult = some ⟨.record, some slot, false⟩) ∧
      (s.lgs.badSet.length < 32 → (s.cdu.flags.get .logRetry).isSet = false →
        (t.cdu.flags.get .logRetry).detail = some (.minor (.logRetry slot r.seq (s.lgs.badCount + 1))) ∧
        t.lgs.staging = s.lgs.staging ∧
        (t.lgs.op = some (.record r (n + 1) true false) ∨ t.lgs.op = some (.record r (n + 1) false false)))))

/-- REG_PROGRAM and REG_PROGRAM_PART_DONE (R184, R185, R186): the tests in their order; three parts, each after the
readback of the one before, into that one slot; the commit mark makes it PROGRAMMED, a failed readback DAMAGED with
REG_DAMAGED. The model's choices in it: PROGRAMMING from the operation's begin (log 13), which comes within the event
(log 15), and a failed commit mark (log 12). -/
def Obligations.RegistrationPrograms : Prop :=
  (∀ (tag slot offset : Byte) (data : List Byte) (s : State), s.powered = true → s.mode = .idle ∨ s.mode = .pass →
    1 ≤ data.length → data.length ≤ 118 →
    let bytes := slot :: offset :: data
    let f : Frame := ⟨0x63#8, tag, bytes⟩
    s.takes f = true →
    let u := takeFrame f s
    (7 < slot.toNat ∨ 31 < offset.toNat ∨ 32 < data.length →
      exec (.regProgram tag bytes) s = .next (u.refusedWith f .outOfRange)) ∧
    (slot.toNat ≤ 7 → offset.toNat ≤ 31 → data.length ≤ 32 →
      (s.pins.service = false → exec (.regProgram tag bytes) s = .next (u.refusedWith f .keyRequired)) ∧
      (s.pins.service = true → s.lgs.regPending ≠ none → exec (.regProgram tag bytes) s = .next (u.refusedWith f .busy)) ∧
      (s.pins.service = true → s.lgs.regPending = none → s.lgs.regStates[slot.toNat]? ≠ some .blank →
        exec (.regProgram tag bytes) s = .next (u.refusedWith f .locked)) ∧
      (s.pins.service = true → s.lgs.regStates[slot.toNat]? = some .blank →
        s.lgs.op = none → s.lgs.waiting = [] →
        exec (.regProgram tag bytes) s =
          .next (({ u with lgs := { s.lgs with
              op := some (.reg slot.toNat (regImage offset.toNat data) .beginMark false)
              regStates := s.lgs.regStates.set slot.toNat .programming } } : State).replied f
            (.regProgram slot.toNat (regImage offset.toNat data))))) ∧
    (regImage offset.toNat data).length = 32 ∧
    (offset.toNat + data.length ≤ 32 → ∀ i, i < data.length → (regImage offset.toNat data)[offset.toNat + i]? = data[i]?)) ∧
  ∀ (s : State) (k : Nat) (image : List Byte) (part : RegPart) (cut : Bool), s.powered = true →
    s.lgs.op = some (.reg k image part cut) →
    (part = .beginMark →
      exec (.regProgramPartDone true) s =
        .next (({ s with lgs := { s.lgs with op := some (.reg k image .image cut) } } : State).mapReg k
          fun c => { c with begun := true }).finish) ∧
    (part = .image →
      exec (.regProgramPartDone true) s =
        .next (({ s with lgs := { s.lgs with op := some (.reg k image .commitMark cut) } } : State).mapReg k
          fun c => { c with bytes := image }).finish) ∧
    (part = .commitMark → s.lgs.waiting = [] →
      exec (.regProgramPartDone true) s =
        .next (({ s with lgs := { s.lgs with op := none, lastResult := some ⟨.reg, some k, true⟩
                                             regStates := s.lgs.regStates.set k .programmed } } : State).mapReg k
          fun c => { c with commit := .valid }).finish) ∧
    ∃ t, exec (.regProgramPartDone false) s = .next t ∧
      t.lgs.lastResult = some ⟨.reg, some k, false⟩ ∧ (t.cdu.flags.get .regDamaged).detail = some (.regPart k part) ∧
      t.store.ring = s.store.ring ∧ t.store.image = s.store.image ∧ (∀ j, j ≠ k → t.store.regs[j]? = s.store.regs[j]?) ∧
      (s.lgs.waiting = [] → t.lgs.op = none ∧ t.lgs.regStates = s.lgs.regStates.set k .damaged) ∧
      (part = .commitMark → ∀ c, t.store.regs[k]? = some c → c.commit = .invalid)

/-- PROFILE_WRITE and PROFILE_WRITE_COMPLETE (R9, R207): an image with a value that fails its test is refused, a
second write is BUSY; a completed write stores the image with its CRC and puts its profile in force, a failed one
leaves a broken image and the defaults under NO_PROFILE. That the operation begins within the event is the model's
choice (log 15). -/
def Obligations.ProfileWrites : Prop :=
  (∀ (tag : Byte) (bytes : List Byte) (s : State), s.powered = true → s.mode = .idle → bytes.length = 110 →
    let f : Frame := ⟨0x08#8, tag, bytes⟩
    s.takes f = true →
    let u := takeFrame f s
    (Profile.ofImage bytes = none → exec (.profileWrite tag bytes) s = .next (u.refusedWith f .outOfRange)) ∧
    (Profile.ofImage bytes ≠ none → s.lgs.profilePending = true →
      exec (.profileWrite tag bytes) s = .next (u.refusedWith f .busy)) ∧
    (Profile.ofImage bytes ≠ none → s.lgs.op = none → s.lgs.waiting = [] →
      exec (.profileWrite tag bytes) s =
        .next (({ u with lgs := { s.lgs with op := some (.profile bytes (crc16 bytes) false) } } : State).replied f
          (.profileWrite (crc16 bytes))))) ∧
  ∀ (s : State) (image : List Byte) (crc : Nat) (cut : Bool), s.powered = true → s.lgs.op = some (.profile image crc cut) →
    (∃ t, exec (.profileWriteComplete true) s = .next t ∧ t.store = { s.store with image := .whole image crc } ∧
      t.lgs.lastResult = some ⟨.profile, none, true⟩ ∧
      (s.mode = .startup → t.profile = s.profile ∧ t.noProfile = s.noProfile) ∧
      (s.mode ≠ .startup → ∀ p, crc16 image = crc → Profile.ofImage image = some p →
        t.profile = p ∧ t.noProfile = false ∧ t.odu.prescaler = 0 ∧ t.odu.rpc = s.odu.rpc)) ∧
    ∃ t, exec (.profileWriteComplete false) s = .next t ∧ t.store = { s.store with image := .broken } ∧
      t.lgs.lastResult = some ⟨.profile, none, false⟩ ∧
      (s.mode ≠ .startup → t.profile = Config.defaults ∧ t.noProfile = true)

/-- LOG_RELEASE (R176, R182, R183): OUT_OF_RANGE above the newest record or below the released mark; at the mark
nothing changes; above it the mark and one copy of the mark cell move, the counts follow, and no slot of the ring
changes. The mark cell's write within the command (log 14) and the free count held at 0 (log 60) are the model's
choices. -/
def Obligations.LogReleases : Prop :=
  ∀ (tag n3 n2 n1 n0 : Byte) (ok : Bool) (s : State), s.powered = true →
    s.mode = .idle ∨ s.mode = .pass ∨ s.mode = .lockout →
    let bytes : List Byte := [n3, n2, n1, n0]
    let f : Frame := ⟨0x62#8, tag, bytes⟩
    s.takes f = true →
    let u := takeFrame f s
    let n := bigEndian bytes
    (s.lgs.newestSeq < n ∨ n < s.lgs.released → exec (.logRelease tag bytes ok) s = .next (u.refusedWith f .outOfRange)) ∧
    (n = s.lgs.released → n ≤ s.lgs.newestSeq →
      exec (.logRelease tag bytes ok) s = .next (u.replied f (.logRelease n 0 s.lgs.free))) ∧
    (s.lgs.released < n → n ≤ s.lgs.newestSeq →
      (∃ t, exec (.logRelease tag bytes ok) s = .next t ∧ t.lgs.released = n ∧ t.store.ring = s.store.ring ∧
        t.store.regs = s.store.regs ∧ t.store.image = s.store.image ∧ t.lgs.newestSeq = s.lgs.newestSeq ∧
        t.lgs.unreleased + (n - s.lgs.released) = s.lgs.unreleased ∧
        (s.store.markA = t.store.markA ∨ s.store.markB = t.store.markB) ∧
        (ok = true → t.store.markA = some n ∨ t.store.markB = some n) ∧
        (ok = true → t.store.mark = max n s.store.mark ∨ t.store.mark = n) ∧
        (∀ a b, s.store.markA = some a → s.store.markB = some b → max a b ≤ t.store.mark)) ∧
      (s.spg.openRec = none → s.lgs.op = none → s.lgs.waiting = [] →
        exec (.logRelease tag bytes ok) s =
          .next (({ u with lgs := { s.lgs with released := n }, store := s.store.writeMark n ok } : State).replied f
            (.logRelease n (n - s.lgs.released) ({ s.lgs with released := n } : Lgs).free))))

/-! ### The link -/

/-- The bytes of a frame: whatever its kind, its tag and its payload of up to 120 bytes, a hunting receiver finds
exactly that frame in them and hunts again (R200, Table 11-4). -/
def Obligations.FramesAreReceivedAsSent : Prop :=
  ∀ (kind tag : Byte) (payload : List Byte) (n : Nat), payload.length ≤ 120 → payload.length + 6 ≤ n →
    receiveAll n .hunting (frameBytes kind tag payload) = (.hunting, [.frame ⟨kind, tag, payload⟩])

/-- The profile image: every profile that passes the tests of PROFILE_WRITE is read back from its 110 bytes, each
value in its place, high byte first, the signed ones in two's complement (R207, Table 11-10). -/
def Obligations.ProfileImageRoundTrip : Prop :=
  ∀ p : Profile, p.valid = true → p.image.length = 110 ∧ Profile.ofImage p.image = some p

/-- The other frames and bytes (R200, R201, R202, R203): VALID_FRAME restarts the silence timer and joins the buffer,
or is counted as a discard when four are held; a byte other than SYNC is skipped while hunting, SYNC begins a frame, the
bytes after it are collected, the last one ends it as a valid frame or as a discard for its CRC, a LEN outside 2 to 122
at once; a discard and a gap raise LINK_ERROR, and the receiver hunts again from the byte after the broken frame's SYNC,
where a frame begun is broken too by a byte in error or a gap; FRAME_SENT takes the frame sent off the queue. Taking a
frame (R201, R202, R203): the previous reply's frames have been sent, the oldest frame leaves the buffer or, none being
held, is received in the same step, and nothing else changes; a command's frame that finds another one the oldest is
received and held, or is a discard when four are held, and its command waits; a kind that is no command's is refused
with UNKNOWN_KIND. The model's choices in it: the clock (log 3), the reply's frames sent and the frame received within
the step (log 5), the discards counted (logs 23, 24). -/
def Obligations.FramesBytesAndTheirTaking : Prop :=
  ((∀ (k tag : Byte) (p : List Byte) (s : State), s.powered = true → p.length ≤ 120 → s.mlk.rxBuf.length < 4 →
    exec (.validFrame k tag p) s =
      .next ({ s with mlk := { s.mlk with rx := .hunting, lastByteAt := s.time.now, rxBuf := s.mlk.rxBuf ++ [⟨k, tag, p⟩]
                                          silenceFrom := s.mlk.silenceFrom.map fun _ => s.time.now
                                          expired := false } } : State).finish) ∧
  (∀ (k tag : Byte) (p : List Byte) (s : State), s.powered = true → p.length ≤ 120 → 4 ≤ s.mlk.rxBuf.length →
    ∃ t, exec (.validFrame k tag p) s = .next t ∧ t.mlk.rxBuf = s.mlk.rxBuf ∧ t.mlk.expired = false ∧
      (t.cdu.flags.get .linkError).detail = some (.linkError .full s.cdu.flags.discards)) ∧
  (∀ (b : Byte) (s : State), s.powered = true → s.mlk.rx = .hunting →
    exec (.byteReceived b) s =
      .next ({ s with mlk := { s.mlk with rx := if b = 0x5A#8 then .inFrame [] else .hunting
                                          lastByteAt := s.time.now } } : State).finish) ∧
  (∀ (b : Byte) (s : State), s.powered = true → s.mlk.rx = .inFrame [] → 2 ≤ b.toNat → b.toNat ≤ 122 →
    exec (.byteReceived b) s =
      .next ({ s with mlk := { s.mlk with rx := .inFrame [b], lastByteAt := s.time.now } } : State).finish) ∧
  (∀ (b : Byte) (s : State), s.powered = true → s.mlk.rx = .inFrame [] → b.toNat < 2 ∨ 122 < b.toNat →
    exec (.byteReceived b) s =
      .next ((({ s with mlk := { s.mlk with rx := .hunting, lastByteAt := s.time.now } } : State).raise .linkError
        (.linkError .length s.cdu.flags.discards)).finish)) ∧
  (∀ (b len : Byte) (bs : List Byte) (s : State), s.powered = true → s.mlk.rx = .inFrame (len :: bs) →
    (bs.length + 2 < len.toNat + 3 →
      exec (.byteReceived b) s =
        .next ({ s with mlk := { s.mlk with rx := .inFrame (len :: bs ++ [b]), lastByteAt := s.time.now } } : State).finish) ∧
    (∀ (k tag : Byte) (p : List Byte), p.length ≤ 120 → 0x5A#8 :: len :: bs ++ [b] = frameBytes k tag p →
      s.mlk.rxBuf.length < 4 →
      exec (.byteReceived b) s =
        .next ({ s with mlk := { s.mlk with rx := .hunting, lastByteAt := s.time.now, rxBuf := s.mlk.rxBuf ++ [⟨k, tag, p⟩]
                                            silenceFrom := s.mlk.silenceFrom.map fun _ => s.time.now
                                            expired := false } } : State).finish) ∧
    (bs.length + 2 = len.toNat + 3 → (∀ k tag p, 0x5A#8 :: len :: bs ++ [b] ≠ frameBytes k tag p) →
      0x5A#8 ∉ len :: bs ++ [b] → 2 ≤ len.toNat → len.toNat ≤ 122 →
      exec (.byteReceived b) s =
        .next ((({ s with mlk := { s.mlk with rx := .hunting, lastByteAt := s.time.now } } : State).raise .linkError
          (.linkError .crc s.cdu.flags.discards)).finish))) ∧
  (∀ (r : DiscardReason) (b : Byte) (bs : List Byte) (s : State), s.powered = true → bs.length ≤ 125 →
    (s.mlk.rx = .inFrame bs → 0x5A#8 ∉ bs ++ [b] →
      exec (.frameDiscard r b) s =
        .next ((({ s with mlk := { s.mlk with rx := .hunting, lastByteAt := s.time.now } } : State).raise .linkError
          (.linkError r s.cdu.flags.discards)).finish)) ∧
    (s.mlk.rx = .inFrame (bs ++ [0x5A#8]) → 0x5A#8 ∉ bs →
      (r = .crc → 2 ≤ b.toNat → b.toNat ≤ 122 →
        ∃ t, exec (.frameDiscard r b) s = .next t ∧ t.mlk.rx = .inFrame [b] ∧
          (t.cdu.flags.get .linkError).detail = some (.linkError r s.cdu.flags.discards)) ∧
      (r = .framing →
        ∃ t, exec (.frameDiscard r b) s = .next t ∧ t.mlk.rx = .hunting ∧
          (t.cdu.flags.get .linkError).detail = some (.linkError r (bump 65535 s.cdu.flags.discards))))) ∧
  (∀ (r : DiscardReason) (b : Byte) (s : State), s.powered = true → s.mlk.rx = .hunting →
    exec (.frameDiscard r b) s =
      .next ((({ s with mlk := { s.mlk with lastByteAt := s.time.now } } : State).raise .linkError
        (.linkError r s.cdu.flags.discards)).finish)) ∧
  (∀ s : State, s.powered = true →
    (s.mlk.rx = .hunting → exec .frameGapTimeout s = .next s.finish) ∧
    (s.mlk.rx = .inFrame [] →
      exec .frameGapTimeout s =
        .next ((({ s.advance (s.mlk.lastByteAt + 3) with mlk := { s.mlk with rx := .hunting } } : State).raise .linkError
          (.linkError .gap s.cdu.flags.discards)).finish)) ∧
    ∀ bs, s.mlk.rx = .inFrame bs →
      ∃ t, exec .frameGapTimeout s = .next t ∧ t.mlk.rx = .hunting ∧ (t.cdu.flags.get .linkError).isSet = true ∧
        t.time.now = max s.time.now (s.mlk.lastByteAt + 3)) ∧
  ∀ (s : State) (i : TxItem) (rest : List TxItem), s.powered = true → s.mlk.tx = i :: rest →
    ∃ t, exec .frameSent s = .next t ∧ { t with mlk := s.mlk, out := s.out } = s ∧ { t.mlk with tx := s.mlk.tx } = s.mlk ∧
      (t.mlk.tx = rest ∨ ∃ k g r n, i = .ok k g r n ∧ n + 1 < r.segments ∧ t.mlk.tx = .ok k g r (n + 1) :: rest)) ∧
  ((∀ (f : Frame) (s : State),
    let u := takeFrame f s
    { u with mlk := s.mlk } = s ∧ (∀ i ∈ u.mlk.tx, i.isNotice = true) ∧ (∃ sent, s.mlk.tx = sent ++ u.mlk.tx) ∧
    u.mlk.rx = s.mlk.rx ∧ u.mlk.lostNotices = s.mlk.lostNotices ∧ u.mlk.time = s.mlk.time ∧
    (∀ g rest, s.mlk.rxBuf = g :: rest → u.mlk.rxBuf = rest ∧ u.mlk.silenceFrom = s.mlk.silenceFrom ∧
      u.mlk.expired = s.mlk.expired) ∧
    (s.mlk.rxBuf = [] → u.mlk.rxBuf = [] ∧ u.mlk.expired = false ∧
      u.mlk.silenceFrom = s.mlk.silenceFrom.map fun _ => s.time.now)) ∧
  (∀ (f : Frame) (s : State),
    (s.takes f = true ↔ s.mlk.rxBuf = [] ∨ ∃ rest, s.mlk.rxBuf = f :: rest)) ∧
  (∀ (i : Instr) (f : Frame) (s : State), frameOf i = some f → s.powered = true → s.takes f = false →
    f.payload.length ≤ 120 →
    (s.mlk.rxBuf.length < 4 →
      exec i s =
        .next ({ s with mlk := { s.mlk with rxBuf := s.mlk.rxBuf ++ [f]
                                            silenceFrom := s.mlk.silenceFrom.map fun _ => s.time.now
                                            expired := false } } : State).finish) ∧
    (4 ≤ s.mlk.rxBuf.length →
      exec i s =
        .next ((({ s with mlk := { s.mlk with silenceFrom := s.mlk.silenceFrom.map fun _ => s.time.now
                                              expired := false } } : State).raise .linkError
          (.linkError .full s.cdu.flags.discards)).finish))) ∧
  ∀ (k tag : Byte) (p : List Byte) (s : State), s.powered = true → commandKinds.contains k.toNat = false →
    s.takes ⟨k, tag, p⟩ = true →
    exec (.unknownKind k tag p) s = .next ((takeFrame ⟨k, tag, p⟩ s).refusedWith ⟨k, tag, p⟩ .unknownKind))

/-- SILENCE_EXPIRY, SET_TIME and SECONDS_TICK (R98, R203, R204): the expired state once per silence, with HOST_SILENCE
in IDLE and PASS alone; the counter set, then rising by 1 and wrapping. The clock's moves are the model's (log 3), and
so is the time in HOST_SILENCE's detail, counted from the end of STARTUP when no frame has come since (log 73). -/
def Obligations.SilenceAndTime : Prop :=
  (∀ (s : State) (start : Nat), s.powered = true → s.mlk.silenceFrom = some start →
    let due := start + s.profile.hostSilence.toNat
    (s.mlk.expired = true → exec .silenceExpiry s = .next s.finish) ∧
    (s.mlk.expired = false → s.mode = .parked ∨ s.mode = .lockout ∨ s.mode = .startup →
      exec .silenceExpiry s =
        .next ({ s.advance due with mlk := { s.mlk with expired := true } } : State).finish) ∧
    (s.mlk.expired = false → s.mode = .idle → (s.cdu.flags.get .hostSilence).isSet = false →
      exec .silenceExpiry s =
        .next ((({ s.advance due with mlk := { s.mlk with expired := true } } : State).raise .hostSilence
          (.hostSilence .idle (max s.time.now due - start))).finish)) ∧
    (s.mlk.expired = false → s.mode = .pass →
      ∃ t, exec .silenceExpiry s = .next t ∧ t.mlk.expired = true ∧ t.out.driveEn = false ∧ t.running = false ∧
        (t.cdu.flags.get .hostSilence).isSet = true)) ∧
  (∀ (tag b3 b2 b1 b0 : Byte) (s : State), s.powered = true → s.mode = .idle ∨ s.mode = .pass →
    let f : Frame := ⟨0x05#8, tag, [b3, b2, b1, b0]⟩
    s.takes f = true →
    let u := takeFrame f s
    exec (.setTime tag f.payload) s =
      .next (({ u with mlk := { u.mlk with time := some (bigEndian f.payload) }
                       time := { s.time with secondAt := s.time.now } } : State).replied f
        (.setTime (bigEndian f.payload)))) ∧
  ∀ s : State, s.powered = true →
    let now := max s.time.now (s.time.secondAt + 1000)
    exec .secondsTick s =
      .next ({ s with time := { s.time with now, secondAt := now }
                      mlk := { s.mlk with time := s.mlk.time.map fun t => if t = 4294967295 then 0 else (t + 1) % 4294967296 } } :
        State).finish

/-! ### Reading and refusing -/

/-- STATUS and PROFILE_READ (R204, R207), taken in every mode and in IDLE and PASS: what they carry, as the state
stands when they are taken; neither changes anything but the link. STAB_READ and TANK_READ (R42, R172): what they
carry; neither changes anything but the link. STAB_READ's duty is 0 while the permit is released (R39, R41). The
model's choices in it: the clock that counts the recovery time (log 3), no permission outside a pass (log 32), the
duty as computed at the command and not that of the period in progress (log 74). -/
def Obligations.StatusProfileStabilityAndTankRead : Prop :=
  ((∀ (tag : Byte) (s : State), s.powered = true →
    let f : Frame := ⟨0x01#8, tag, []⟩
    s.takes f = true →
    let u := takeFrame f s
    ∃ r, exec (.status tag []) s = .next (u.replied f (.status r)) ∧ r.mode = s.mode ∧
      r.phase = (if s.mode = .startup then some s.mlk.phase else none) ∧ r.noProfile = s.noProfile ∧
      r.profileWrite = s.lgs.profilePending ∧ r.band = s.stu.band ∧ r.sEff = s.stu.published.map (fun p => p.margin.sEff) ∧
      (∀ p, s.stu.published = some p → r.c = p.c) ∧ (s.stu.published = none → r.c = 0) ∧ r.driveEn = u.permit ∧
      r.running = (if s.mode = .pass then some s.running else none) ∧ r.lock = s.lock ∧
      (r.storeBusy = true ↔ s.lgs.op ≠ none ∨ s.lgs.waiting ≠ []) ∧ r.lastResult = s.lgs.lastResult ∧
      r.halted = s.lgs.halted ∧ r.flags = s.cdu.flags ∧ r.alert = s.cdu.flags.alert ∧ r.time = s.mlk.time ∧
      r.silenceExpired = u.mlk.expired ∧ r.lostNotices = s.mlk.lostNotices) ∧
  ∀ (tag : Byte) (s : State), s.powered = true → s.mode = .idle ∨ s.mode = .pass →
    let f : Frame := ⟨0x09#8, tag, []⟩
    s.takes f = true →
    exec (.profileRead tag []) s =
      .next ((takeFrame f s).replied f (.profileRead (!s.noProfile) s.noProfile s.lgs.profilePending s.profile.values))) ∧
  (∀ (tag : Byte) (s : State), s.powered = true → s.mode = .idle ∨ s.mode = .pass →
    let f : Frame := ⟨0x10#8, tag, []⟩
    let u := takeFrame f s
    let g : Frame := ⟨0x19#8, tag, []⟩
    let v := takeFrame g s
    (s.takes f = true → ∃ r, exec (.stabRead tag []) s = .next (u.replied f (.stabRead r)) ∧ r.published = s.stu.published ∧
      r.band = s.stu.band ∧ r.trip = s.stu.trip ∧ r.recovery = s.stu.recovery.map (fun t => s.time.now - t) ∧
      r.load = s.stu.load ∧ r.weeder = s.stu.weederAdm ∧ r.pruner = s.stu.prunerAdm ∧ r.driveEn = u.permit ∧
      r.failing = ⟨false, s.stu.band.stops, u.mlk.expired⟩ ∧ (r.driveEn = false → r.duty = 0)) ∧
    (s.takes g = true → ∃ r, exec (.tankRead tag []) s = .next (v.replied g (.tankRead r)) ∧ r.tank = s.spg.tank ∧
      r.overrun = s.spg.overrunVolume ∧ r.accumulator = s.spg.acc ∧
      r.pendingVolume = s.spg.acc / Spg.flowUnit s.profile ∧ r.flowK = s.profile.flowK ∧ r.sections = s.spg.sections ∧
      r.driven = s.pinsOut.sections ∧ r.reserved = s.spg.reserved ∧
      (r.roomWait = true ↔ ∃ o, s.spg.openRec = some o ∧ o.roomWait = true) ∧ r.speed = s.odu.speed ∧
      r.permission = s.permission .spray ∧ r.openRec = s.spg.openRec))

/-- MAP_READ, PASS_READ and TRUNK_READ (R63, R72, R108): what they carry, six bays and eight trunks from the place
asked for; a place past the last is refused. WEEDER_READ and PRUNE_READ (R130, R152): what they carry; neither changes
anything but the link. The model's choices in it: the clock that counts the time left in WEEDER_READ (log 3), no
permission outside a pass (log 32), no tool reported selected there (log 72), SPRAY never reported withheld (log 75).
-/
def Obligations.MapPassTrunkAndToolReads : Prop :=
  (∀ (tag n : Byte) (s : State), s.powered = true → s.mode = .idle ∨ s.mode = .pass →
    let f : Frame := ⟨0x22#8, tag, [n]⟩
    let g : Frame := ⟨0x50#8, tag, [n]⟩
    let h : Frame := ⟨0x35#8, tag, []⟩
    (s.takes f = true → 63 < n.toNat → exec (.mapRead tag [n]) s = .next ((takeFrame f s).refusedWith f .outOfRange)) ∧
    (s.takes f = true → n.toNat ≤ 63 →
      ∃ r, exec (.mapRead tag [n]) s = .next ((takeFrame f s).replied f (.mapRead r)) ∧
        r.count = s.mpu.window.length ∧ r.mapLock = s.mpu.mapLock ∧ r.service = s.pins.service ∧ r.lock = s.lock ∧
        r.reference.pos = s.mpu.reference.pos ∧ r.reference.res = s.mpu.reference.res ∧
        r.weeder = ⟨s.mpu.weeder.pos, s.mpu.weeder.res, s.permission .weeder, s.mpu.weeder.requestMark⟩ ∧
        r.pruner = ⟨s.mpu.pruner.pos, s.mpu.pruner.res, s.permission .pruner, s.mpu.pruner.requestMark⟩ ∧
        r.spray = ⟨s.mpu.spray.pos, s.mpu.spray.res, s.permission .spray, s.mpu.spray.requestMark⟩ ∧
        r.bays.length ≤ 6 ∧ ∀ i, i < 6 → r.bays[i]? = s.mpu.window[n.toNat + i]?) ∧
    (s.takes g = true → 31 < n.toNat → exec (.trunkRead tag [n]) s = .next ((takeFrame g s).refusedWith g .outOfRange)) ∧
    (s.takes g = true → n.toNat ≤ 31 →
      ∃ r, exec (.trunkRead tag [n]) s = .next ((takeFrame g s).replied g (.trunkRead r)) ∧
        r.rpc = s.odu.rpc ∧ r.prescaler = s.odu.prescaler ∧ r.direction = s.odu.direction ∧ r.speed = s.odu.speed ∧
        r.furthest = s.odu.furthest ∧ r.offset = s.odu.offset ∧ r.lastPost = s.odu.lastPost ∧ r.postRef = s.odu.postRef ∧
        r.count = s.ttr.trunks.length ∧ r.counter = s.ttr.counter ∧ r.spacing = s.ttr.spacing ∧
        r.overflowed = s.ttr.overflowed ∧ r.trunks.length ≤ 8 ∧
        ∀ i, i < 8 → r.trunks[i]? = s.ttr.trunks[n.toNat + i]?) ∧
    (s.takes h = true → ∃ r, exec (.passRead tag []) s = .next ((takeFrame h s).replied h (.passRead r)) ∧ r.mode = s.mode ∧
      r.pass = (if s.mode = .pass then s.psc.pass else none) ∧ r.lastPass = (if s.mode = .pass then none else s.psc.lastPass) ∧
      r.selected = s.tools ∧ r.withheld = ⟨s.wsq.withheld, s.prs.fault, false⟩ ∧ r.driveEn = (takeFrame h s).permit ∧
      r.rpc = s.odu.rpc ∧ r.offset = s.odu.offset)) ∧
  (∀ (tag : Byte) (s : State), s.powered = true → s.mode = .idle ∨ s.mode = .pass →
    let f : Frame := ⟨0x41#8, tag, []⟩
    let g : Frame := ⟨0x4B#8, tag, []⟩
    (s.takes f = true → ∃ r, exec (.weederRead tag []) s = .next ((takeFrame f s).replied f (.weederRead r)) ∧ r.arm = s.wsq.arm ∧
      r.simArm = (if s.rehearsal = 3 then some s.wsq.simArm else none) ∧
      (s.rehearsal ≠ 3 → r.timeLeft = s.wsq.deadline.map (fun d => d - s.time.now)) ∧
      r.armExt = s.pins.armExt ∧ r.armRet = s.pins.armRet ∧ (r.armOut && r.armIn) = false ∧
      r.bladeCommanded = s.bladeCommanded ∧ r.intent = s.wsq.intent ∧ r.clearedTo = s.wsq.clearedTo ∧
      r.holdOverflow = s.wsq.holdOverflow ∧ r.holdQueue = s.wsq.holdQueue ∧ r.stall = s.wsq.stall ∧ r.fault = s.wsq.fault ∧
      r.admission = s.stu.weederAdm ∧ r.permission = s.permission .weeder ∧ r.failing = s.driveTerms ∧
      r.queue = s.wsq.queue) ∧
    (s.takes g = true → ∃ r, exec (.pruneRead tag []) s = .next ((takeFrame g s).replied g (.pruneRead r)) ∧ r.program = s.prs.program ∧
      r.armed = s.prs.armed ∧ r.fault = s.prs.fault ∧ r.head = s.prs.head ∧
      r.simHead = (if s.rehearsal = 3 then some s.prs.simHead else none) ∧ r.inPosition = s.pins.headInpos ∧
      r.cuttersCommanded = s.cuttersCommanded ∧ r.run = s.prs.run ∧
      r.admission = s.stu.prunerAdm.map (fun q => q.status) ∧ r.permission = s.permission .pruner ∧
      r.counts = s.prs.counts ∧
      (∀ t, s.ttr.candidate = some t →
        ∃ c, r.candidate = some c ∧ c.trunk = t.number ∧
          c.opening = t.pos + s.profile.pruneLag - s.profile.pruneLead ∧
          c.latest = t.pos + s.profile.pruneLag + s.profile.pruneLate) ∧
      (s.ttr.candidate = none → r.candidate = none)))

/-- LOG_STATUS, LOG_READ and REG_READ (R181, R182, R187), taken in IDLE, PASS and LOCKOUT: what they carry; LOG_STATUS
shows a listed record write as waiting for room while its test finds none (R177, log 50); LOG_READ answers the written
records above the released mark from the number asked for, in sequence, four of them when at least four are written
from there, whatever numbers are missing, and otherwise all. The free count held at 0 (log 60) is the model's. -/
def Obligations.LogAndSlotRead : Prop :=
  ∀ (tag b3 b2 b1 b0 : Byte) (s : State), s.powered = true → s.mode = .idle ∨ s.mode = .pass ∨ s.mode = .lockout →
    let f : Frame := ⟨0x60#8, tag, []⟩
    let g : Frame := ⟨0x61#8, tag, [b3, b2, b1, b0]⟩
    let h : Frame := ⟨0x64#8, tag, [b0]⟩
    let first := bigEndian [b3, b2, b1, b0]
    (s.takes f = true → ∃ r, exec (.logStatus tag []) s = .next ((takeFrame f s).replied f (.logStatus r)) ∧
      r.oldest = (if s.lgs.released < s.lgs.newestSeq then some (s.lgs.released + 1) else none) ∧
      r.newest = s.lgs.newestSeq ∧ r.next = s.lgs.newestSeq + s.lgs.staging.length + 1 ∧
      r.staged = s.lgs.staging.map (fun x => x.seq) ∧ r.usable = 4096 - s.lgs.badCount ∧
      r.unreleased = s.lgs.newestSeq - s.lgs.released ∧ r.free = r.usable - r.unreleased ∧ r.badCount = s.lgs.badCount ∧
      r.badSet = s.lgs.badSet ∧ r.halted = s.lgs.halted ∧ r.reserved = s.spg.reserved ∧ r.op = s.lgs.op ∧
      r.waiting.map (fun w => w.kind) = s.lgs.waiting.map Request.kind ∧
      (∀ w ∈ r.waiting,
        w.waitsRoom = true ↔ w.kind = .record ∧ s.lgs.free ≤ s.lgs.staging.length + (if s.spg.reserved then 1 else 0)) ∧
      r.lastResult = s.lgs.lastResult) ∧
    (s.takes g = true → ∃ records, exec (.logRead tag g.payload) s =
        .next ((takeFrame g s).replied g (.logRead s.lgs.newestSeq records)) ∧
      records.length ≤ 4 ∧
      (∀ x ∈ records, s.lgs.released < x.seq ∧ first ≤ x.seq ∧ x.seq ≤ s.lgs.newestSeq ∧
        ∃ k, (k, SlotContent.record x) ∈ s.store.ring) ∧
      records.Pairwise (fun x y => x.seq < y.seq) ∧
      (∀ k x, (k, SlotContent.record x) ∈ s.store.ring → s.lgs.released < x.seq → first ≤ x.seq →
        x.seq ≤ s.lgs.newestSeq →
        (∃ y ∈ records, y.seq = x.seq) ∨ (records.length = 4 ∧ ∀ y ∈ records, y.seq < x.seq))) ∧
    (s.takes h = true → 7 < b0.toNat → b0.toNat ≠ 255 → exec (.regRead tag [b0]) s = .next ((takeFrame h s).refusedWith h .outOfRange)) ∧
    ∀ bytes, (b0.toNat = 255 → bytes = (List.range 32).map Config.factoryByte) →
      (b0.toNat ≤ 7 → s.lgs.op = none ∧ ∃ c, s.store.regs[b0.toNat]? = some c ∧ bytes = c.bytes) →
      b0.toNat ≤ 7 ∨ b0.toNat = 255 → s.takes h = true →
      exec (.regRead tag [b0]) s =
        .next ((takeFrame h s).replied h (.regRead s.lgs.regStates s.lgs.currentSlot s.lgs.regPending bytes))

/-- The refusals by mode and by length (R201, R208, Tables 5-1, 9-2, 11-1, 11-8): BUSY in STARTUP, PARKED in PARKED
and WRONG_MODE in LOCKOUT for every command that is not taken there, WRONG_MODE for the commands of IDLE in PASS,
those of PASS in IDLE and FILL in a RUNNING pass; and, for every command in every mode that takes it, BAD_LENGTH for a
payload of another length than Table 11-8 gives. -/
def Obligations.RefusalsByModeAndLength : Prop :=
  ∀ (f : Frame) (i : Instr) (s : State), frameOf i = some f → s.powered = true → s.takes f = true →
    let u := takeFrame f s
    (s.mode = .startup → f.kind ≠ 0x01#8 → exec i s = .next (u.refusedWith f .busy)) ∧
    (s.mode = .parked → f.kind ∉ parkedKinds → exec i s = .next (u.refusedWith f .parked)) ∧
    (s.mode = .lockout → f.kind ∉ lockoutKinds → exec i s = .next (u.refusedWith f .wrongMode)) ∧
    (s.mode = .pass → f.kind ∈ [0x02#8, 0x03#8, 0x04#8, 0x08#8, 0x20#8, 0x30#8] →
      exec i s = .next (u.refusedWith f .wrongMode)) ∧
    (s.mode = .idle → f.kind ∈ [0x04#8, 0x31#8, 0x32#8, 0x33#8, 0x34#8] → exec i s = .next (u.refusedWith f .wrongMode)) ∧
    (s.running = true → f.kind = 0x18#8 → exec i s = .next (u.refusedWith f .wrongMode)) ∧
    (takenIn f.kind s = true → f.fits s = false → exec i s = .next (u.refusedWith f .badLength))

/-! ### Invariants that every step keeps -/

/-- The store keeps its form (R176, R184): the ring's written slots strictly rising below 4096, each slot once, and
eight registration slots; every slot but the next one for a write keeps its content at any step. -/
def Obligations.StoreKeepsItsForm : Prop :=
  ∀ s t : State, step s = .next t → LogRing.wf s.store.ring = true → s.store.regs.length = 8 →
    LogRing.wf t.store.ring = true ∧ t.store.regs.length = 8 ∧
    ∀ k, k ≠ s.lgs.nextSlot → LogRing.read t.store.ring k = LogRing.read s.store.ring k

/-- The link keeps its bounds (R200, R201, R202): at most four frames in the buffer, at most sixteen notices and one
reply in the transmit queue, the lost-notice count at most 65535. -/
def Obligations.LinkKeepsItsBounds : Prop :=
  ∀ s t : State, step s = .next t → LinkBounds s → LinkBounds t

/-- The band keeps to its record (R28, R33): a trip record exactly in TRIPPED and LATCHED, a running recovery timer in
TRIPPED alone, the ceiling 0 while the band stops. -/
def Obligations.BandKeepsToItsRecord : Prop :=
  ∀ s t : State, step s = .next t → BandForm s → BandForm t

/-- The lists keep their lengths (R47, R49, R52, R57, R67, R111): at most 64 bays in rising order without overlap, 32
trunks, 16 queue entries, 21 speed recordings; the row position and the map offset stay in their ranges, and the
profile in force is one that passes the tests of PROFILE_WRITE (R206, R207). -/
def Obligations.ListsKeepTheirBounds : Prop :=
  ∀ s t : State, step s = .next t → ListBounds s → ListBounds t

/-- The forms and bounds hold right after power-on: the store form, the link's bounds, the band's record and the
lists' bounds. That the store has never been written is the model's choice (log 7). -/
def Obligations.ResetMeetsTheInvariants : Prop :=
  LogRing.wf State.reset.store.ring = true ∧ State.reset.store.regs.length = 8 ∧ LinkBounds State.reset ∧
    BandForm State.reset ∧ ListBounds State.reset
end

