-- ==== Sys2Proof/Laws/State.lean ====
section
/-! SUPPORT. What each named update of the state changes and keeps: one lemma per field, true by unfolding. -/

namespace Sys2Proof.Machine

variable (s : State)

@[simp] theorem State.finish_powered : (s.finish).powered = s.powered := rfl
@[simp] theorem State.finish_time : (s.finish).time = s.time := rfl
@[simp] theorem State.finish_pins : (s.finish).pins = s.pins := rfl
@[simp] theorem State.finish_profile : (s.finish).profile = s.profile := rfl
@[simp] theorem State.finish_noProfile : (s.finish).noProfile = s.noProfile := rfl
@[simp] theorem State.finish_stu : (s.finish).stu = s.stu := rfl
@[simp] theorem State.finish_odu : (s.finish).odu = s.odu := rfl
@[simp] theorem State.finish_ttr : (s.finish).ttr = s.ttr := rfl
@[simp] theorem State.finish_mpu : (s.finish).mpu = s.mpu := rfl
@[simp] theorem State.finish_psc : (s.finish).psc = s.psc := rfl
@[simp] theorem State.finish_wsq : (s.finish).wsq = s.wsq := rfl
@[simp] theorem State.finish_prs : (s.finish).prs = s.prs := rfl
@[simp] theorem State.finish_spg : (s.finish).spg = s.spg := rfl
@[simp] theorem State.finish_store : (s.finish).store = s.store := rfl
@[simp] theorem State.finish_lgs : (s.finish).lgs = s.lgs := rfl
@[simp] theorem State.finish_cdu : (s.finish).cdu = s.cdu := rfl
@[simp] theorem State.finish_mlk : (s.finish).mlk = s.mlk := rfl
@[simp] theorem State.finish_out : (s.finish).out = s.pinsOut := rfl
@[simp] theorem State.finish_freeCount : (s.finish).freeCount = s.freeCount := rfl
@[simp] theorem State.finish_overrun : (s.finish).overrun = s.overrun := rfl
@[simp] theorem State.finish_pending : (s.finish).pending = s.pending := rfl

@[simp] theorem State.advance_powered (d : Nat) : (s.advance d).powered = s.powered := rfl
@[simp] theorem State.advance_time (d : Nat) : (s.advance d).time = { s.time with now := max s.time.now d } := rfl
@[simp] theorem State.advance_pins (d : Nat) : (s.advance d).pins = s.pins := rfl
@[simp] theorem State.advance_profile (d : Nat) : (s.advance d).profile = s.profile := rfl
@[simp] theorem State.advance_noProfile (d : Nat) : (s.advance d).noProfile = s.noProfile := rfl
@[simp] theorem State.advance_stu (d : Nat) : (s.advance d).stu = s.stu := rfl
@[simp] theorem State.advance_odu (d : Nat) : (s.advance d).odu = s.odu := rfl
@[simp] theorem State.advance_ttr (d : Nat) : (s.advance d).ttr = s.ttr := rfl
@[simp] theorem State.advance_mpu (d : Nat) : (s.advance d).mpu = s.mpu := rfl
@[simp] theorem State.advance_psc (d : Nat) : (s.advance d).psc = s.psc := rfl
@[simp] theorem State.advance_wsq (d : Nat) : (s.advance d).wsq = s.wsq := rfl
@[simp] theorem State.advance_prs (d : Nat) : (s.advance d).prs = s.prs := rfl
@[simp] theorem State.advance_spg (d : Nat) : (s.advance d).spg = s.spg := rfl
@[simp] theorem State.advance_store (d : Nat) : (s.advance d).store = s.store := rfl
@[simp] theorem State.advance_lgs (d : Nat) : (s.advance d).lgs = s.lgs := rfl
@[simp] theorem State.advance_cdu (d : Nat) : (s.advance d).cdu = s.cdu := rfl
@[simp] theorem State.advance_mlk (d : Nat) : (s.advance d).mlk = s.mlk := rfl
@[simp] theorem State.advance_out (d : Nat) : (s.advance d).out = s.out := rfl
@[simp] theorem State.advance_freeCount (d : Nat) : (s.advance d).freeCount = s.freeCount := rfl
@[simp] theorem State.advance_overrun (d : Nat) : (s.advance d).overrun = s.overrun := rfl
@[simp] theorem State.advance_pending (d : Nat) : (s.advance d).pending = s.pending := rfl

@[simp] theorem State.setLoad_powered (l : LoadTable) : (s.setLoad l).powered = s.powered := rfl
@[simp] theorem State.setLoad_time (l : LoadTable) : (s.setLoad l).time = s.time := rfl
@[simp] theorem State.setLoad_pins (l : LoadTable) : (s.setLoad l).pins = s.pins := rfl
@[simp] theorem State.setLoad_profile (l : LoadTable) : (s.setLoad l).profile = s.profile := rfl
@[simp] theorem State.setLoad_noProfile (l : LoadTable) : (s.setLoad l).noProfile = s.noProfile := rfl
@[simp] theorem State.setLoad_stu (l : LoadTable) : (s.setLoad l).stu = { s.stu with load := l } := rfl
@[simp] theorem State.setLoad_odu (l : LoadTable) : (s.setLoad l).odu = s.odu := rfl
@[simp] theorem State.setLoad_ttr (l : LoadTable) : (s.setLoad l).ttr = s.ttr := rfl
@[simp] theorem State.setLoad_mpu (l : LoadTable) : (s.setLoad l).mpu = s.mpu := rfl
@[simp] theorem State.setLoad_psc (l : LoadTable) : (s.setLoad l).psc = s.psc := rfl
@[simp] theorem State.setLoad_wsq (l : LoadTable) : (s.setLoad l).wsq = s.wsq := rfl
@[simp] theorem State.setLoad_prs (l : LoadTable) : (s.setLoad l).prs = s.prs := rfl
@[simp] theorem State.setLoad_spg (l : LoadTable) : (s.setLoad l).spg = s.spg := rfl
@[simp] theorem State.setLoad_store (l : LoadTable) : (s.setLoad l).store = s.store := rfl
@[simp] theorem State.setLoad_lgs (l : LoadTable) : (s.setLoad l).lgs = s.lgs := rfl
@[simp] theorem State.setLoad_cdu (l : LoadTable) : (s.setLoad l).cdu = s.cdu := rfl
@[simp] theorem State.setLoad_mlk (l : LoadTable) : (s.setLoad l).mlk = s.mlk := rfl
@[simp] theorem State.setLoad_out (l : LoadTable) : (s.setLoad l).out = s.out := rfl
@[simp] theorem State.setLoad_freeCount (l : LoadTable) : (s.setLoad l).freeCount = s.freeCount := rfl
@[simp] theorem State.setLoad_overrun (l : LoadTable) : (s.setLoad l).overrun = s.overrun := rfl
@[simp] theorem State.setLoad_pending (l : LoadTable) : (s.setLoad l).pending = s.pending := rfl

@[simp] theorem State.setPass_powered (p : PassRecord) : (s.setPass p).powered = s.powered := rfl
@[simp] theorem State.setPass_time (p : PassRecord) : (s.setPass p).time = s.time := rfl
@[simp] theorem State.setPass_pins (p : PassRecord) : (s.setPass p).pins = s.pins := rfl
@[simp] theorem State.setPass_profile (p : PassRecord) : (s.setPass p).profile = s.profile := rfl
@[simp] theorem State.setPass_noProfile (p : PassRecord) : (s.setPass p).noProfile = s.noProfile := rfl
@[simp] theorem State.setPass_stu (p : PassRecord) : (s.setPass p).stu = s.stu := rfl
@[simp] theorem State.setPass_odu (p : PassRecord) : (s.setPass p).odu = s.odu := rfl
@[simp] theorem State.setPass_ttr (p : PassRecord) : (s.setPass p).ttr = s.ttr := rfl
@[simp] theorem State.setPass_mpu (p : PassRecord) : (s.setPass p).mpu = s.mpu := rfl
@[simp] theorem State.setPass_psc (p : PassRecord) : (s.setPass p).psc = { s.psc with pass := some p } := rfl
@[simp] theorem State.setPass_wsq (p : PassRecord) : (s.setPass p).wsq = s.wsq := rfl
@[simp] theorem State.setPass_prs (p : PassRecord) : (s.setPass p).prs = s.prs := rfl
@[simp] theorem State.setPass_spg (p : PassRecord) : (s.setPass p).spg = s.spg := rfl
@[simp] theorem State.setPass_store (p : PassRecord) : (s.setPass p).store = s.store := rfl
@[simp] theorem State.setPass_lgs (p : PassRecord) : (s.setPass p).lgs = s.lgs := rfl
@[simp] theorem State.setPass_cdu (p : PassRecord) : (s.setPass p).cdu = s.cdu := rfl
@[simp] theorem State.setPass_mlk (p : PassRecord) : (s.setPass p).mlk = s.mlk := rfl
@[simp] theorem State.setPass_out (p : PassRecord) : (s.setPass p).out = s.out := rfl
@[simp] theorem State.setPass_freeCount (p : PassRecord) : (s.setPass p).freeCount = s.freeCount := rfl
@[simp] theorem State.setPass_overrun (p : PassRecord) : (s.setPass p).overrun = s.overrun := rfl
@[simp] theorem State.setPass_pending (p : PassRecord) : (s.setPass p).pending = s.pending := rfl

@[simp] theorem State.setRun_powered (r : Option Run) : (s.setRun r).powered = s.powered := rfl
@[simp] theorem State.setRun_time (r : Option Run) : (s.setRun r).time = s.time := rfl
@[simp] theorem State.setRun_pins (r : Option Run) : (s.setRun r).pins = s.pins := rfl
@[simp] theorem State.setRun_profile (r : Option Run) : (s.setRun r).profile = s.profile := rfl
@[simp] theorem State.setRun_noProfile (r : Option Run) : (s.setRun r).noProfile = s.noProfile := rfl
@[simp] theorem State.setRun_stu (r : Option Run) : (s.setRun r).stu = s.stu := rfl
@[simp] theorem State.setRun_odu (r : Option Run) : (s.setRun r).odu = s.odu := rfl
@[simp] theorem State.setRun_ttr (r : Option Run) : (s.setRun r).ttr = s.ttr := rfl
@[simp] theorem State.setRun_mpu (r : Option Run) : (s.setRun r).mpu = s.mpu := rfl
@[simp] theorem State.setRun_psc (r : Option Run) : (s.setRun r).psc = s.psc := rfl
@[simp] theorem State.setRun_wsq (r : Option Run) : (s.setRun r).wsq = s.wsq := rfl
@[simp] theorem State.setRun_prs (r : Option Run) : (s.setRun r).prs = { s.prs with run := r } := rfl
@[simp] theorem State.setRun_spg (r : Option Run) : (s.setRun r).spg = s.spg := rfl
@[simp] theorem State.setRun_store (r : Option Run) : (s.setRun r).store = s.store := rfl
@[simp] theorem State.setRun_lgs (r : Option Run) : (s.setRun r).lgs = s.lgs := rfl
@[simp] theorem State.setRun_cdu (r : Option Run) : (s.setRun r).cdu = s.cdu := rfl
@[simp] theorem State.setRun_mlk (r : Option Run) : (s.setRun r).mlk = s.mlk := rfl
@[simp] theorem State.setRun_out (r : Option Run) : (s.setRun r).out = s.out := rfl
@[simp] theorem State.setRun_freeCount (r : Option Run) : (s.setRun r).freeCount = s.freeCount := rfl
@[simp] theorem State.setRun_overrun (r : Option Run) : (s.setRun r).overrun = s.overrun := rfl
@[simp] theorem State.setRun_pending (r : Option Run) : (s.setRun r).pending = s.pending := rfl

@[simp] theorem State.writeSlot_powered (n : Nat) (c : SlotContent) : (s.writeSlot n c).powered = s.powered := rfl
@[simp] theorem State.writeSlot_time (n : Nat) (c : SlotContent) : (s.writeSlot n c).time = s.time := rfl
@[simp] theorem State.writeSlot_pins (n : Nat) (c : SlotContent) : (s.writeSlot n c).pins = s.pins := rfl
@[simp] theorem State.writeSlot_profile (n : Nat) (c : SlotContent) : (s.writeSlot n c).profile = s.profile := rfl
@[simp] theorem State.writeSlot_noProfile (n : Nat) (c : SlotContent) : (s.writeSlot n c).noProfile = s.noProfile := rfl
@[simp] theorem State.writeSlot_stu (n : Nat) (c : SlotContent) : (s.writeSlot n c).stu = s.stu := rfl
@[simp] theorem State.writeSlot_odu (n : Nat) (c : SlotContent) : (s.writeSlot n c).odu = s.odu := rfl
@[simp] theorem State.writeSlot_ttr (n : Nat) (c : SlotContent) : (s.writeSlot n c).ttr = s.ttr := rfl
@[simp] theorem State.writeSlot_mpu (n : Nat) (c : SlotContent) : (s.writeSlot n c).mpu = s.mpu := rfl
@[simp] theorem State.writeSlot_psc (n : Nat) (c : SlotContent) : (s.writeSlot n c).psc = s.psc := rfl
@[simp] theorem State.writeSlot_wsq (n : Nat) (c : SlotContent) : (s.writeSlot n c).wsq = s.wsq := rfl
@[simp] theorem State.writeSlot_prs (n : Nat) (c : SlotContent) : (s.writeSlot n c).prs = s.prs := rfl
@[simp] theorem State.writeSlot_spg (n : Nat) (c : SlotContent) : (s.writeSlot n c).spg = s.spg := rfl
@[simp] theorem State.writeSlot_store (n : Nat) (c : SlotContent) : (s.writeSlot n c).store = { s.store with ring := LogRing.write s.store.ring n c } := rfl
@[simp] theorem State.writeSlot_lgs (n : Nat) (c : SlotContent) : (s.writeSlot n c).lgs = s.lgs := rfl
@[simp] theorem State.writeSlot_cdu (n : Nat) (c : SlotContent) : (s.writeSlot n c).cdu = s.cdu := rfl
@[simp] theorem State.writeSlot_mlk (n : Nat) (c : SlotContent) : (s.writeSlot n c).mlk = s.mlk := rfl
@[simp] theorem State.writeSlot_out (n : Nat) (c : SlotContent) : (s.writeSlot n c).out = s.out := rfl
@[simp] theorem State.writeSlot_freeCount (n : Nat) (c : SlotContent) : (s.writeSlot n c).freeCount = s.freeCount := rfl
@[simp] theorem State.writeSlot_overrun (n : Nat) (c : SlotContent) : (s.writeSlot n c).overrun = s.overrun := rfl
@[simp] theorem State.writeSlot_pending (n : Nat) (c : SlotContent) : (s.writeSlot n c).pending = s.pending := rfl

@[simp] theorem State.mapReg_powered (n : Nat) (f : RegCell → RegCell) : (s.mapReg n f).powered = s.powered := rfl
@[simp] theorem State.mapReg_time (n : Nat) (f : RegCell → RegCell) : (s.mapReg n f).time = s.time := rfl
@[simp] theorem State.mapReg_pins (n : Nat) (f : RegCell → RegCell) : (s.mapReg n f).pins = s.pins := rfl
@[simp] theorem State.mapReg_profile (n : Nat) (f : RegCell → RegCell) : (s.mapReg n f).profile = s.profile := rfl
@[simp] theorem State.mapReg_noProfile (n : Nat) (f : RegCell → RegCell) : (s.mapReg n f).noProfile = s.noProfile := rfl
@[simp] theorem State.mapReg_stu (n : Nat) (f : RegCell → RegCell) : (s.mapReg n f).stu = s.stu := rfl
@[simp] theorem State.mapReg_odu (n : Nat) (f : RegCell → RegCell) : (s.mapReg n f).odu = s.odu := rfl
@[simp] theorem State.mapReg_ttr (n : Nat) (f : RegCell → RegCell) : (s.mapReg n f).ttr = s.ttr := rfl
@[simp] theorem State.mapReg_mpu (n : Nat) (f : RegCell → RegCell) : (s.mapReg n f).mpu = s.mpu := rfl
@[simp] theorem State.mapReg_psc (n : Nat) (f : RegCell → RegCell) : (s.mapReg n f).psc = s.psc := rfl
@[simp] theorem State.mapReg_wsq (n : Nat) (f : RegCell → RegCell) : (s.mapReg n f).wsq = s.wsq := rfl
@[simp] theorem State.mapReg_prs (n : Nat) (f : RegCell → RegCell) : (s.mapReg n f).prs = s.prs := rfl
@[simp] theorem State.mapReg_spg (n : Nat) (f : RegCell → RegCell) : (s.mapReg n f).spg = s.spg := rfl
@[simp] theorem State.mapReg_store (n : Nat) (f : RegCell → RegCell) : (s.mapReg n f).store = { s.store with regs := s.store.regs.modify n f } := rfl
@[simp] theorem State.mapReg_lgs (n : Nat) (f : RegCell → RegCell) : (s.mapReg n f).lgs = s.lgs := rfl
@[simp] theorem State.mapReg_cdu (n : Nat) (f : RegCell → RegCell) : (s.mapReg n f).cdu = s.cdu := rfl
@[simp] theorem State.mapReg_mlk (n : Nat) (f : RegCell → RegCell) : (s.mapReg n f).mlk = s.mlk := rfl
@[simp] theorem State.mapReg_out (n : Nat) (f : RegCell → RegCell) : (s.mapReg n f).out = s.out := rfl
@[simp] theorem State.mapReg_freeCount (n : Nat) (f : RegCell → RegCell) : (s.mapReg n f).freeCount = s.freeCount := rfl
@[simp] theorem State.mapReg_overrun (n : Nat) (f : RegCell → RegCell) : (s.mapReg n f).overrun = s.overrun := rfl
@[simp] theorem State.mapReg_pending (n : Nat) (f : RegCell → RegCell) : (s.mapReg n f).pending = s.pending := rfl

@[simp] theorem State.setReg_powered (n : Nat) (r : RegState) : (s.setReg n r).powered = s.powered := rfl
@[simp] theorem State.setReg_time (n : Nat) (r : RegState) : (s.setReg n r).time = s.time := rfl
@[simp] theorem State.setReg_pins (n : Nat) (r : RegState) : (s.setReg n r).pins = s.pins := rfl
@[simp] theorem State.setReg_profile (n : Nat) (r : RegState) : (s.setReg n r).profile = s.profile := rfl
@[simp] theorem State.setReg_noProfile (n : Nat) (r : RegState) : (s.setReg n r).noProfile = s.noProfile := rfl
@[simp] theorem State.setReg_stu (n : Nat) (r : RegState) : (s.setReg n r).stu = s.stu := rfl
@[simp] theorem State.setReg_odu (n : Nat) (r : RegState) : (s.setReg n r).odu = s.odu := rfl
@[simp] theorem State.setReg_ttr (n : Nat) (r : RegState) : (s.setReg n r).ttr = s.ttr := rfl
@[simp] theorem State.setReg_mpu (n : Nat) (r : RegState) : (s.setReg n r).mpu = s.mpu := rfl
@[simp] theorem State.setReg_psc (n : Nat) (r : RegState) : (s.setReg n r).psc = s.psc := rfl
@[simp] theorem State.setReg_wsq (n : Nat) (r : RegState) : (s.setReg n r).wsq = s.wsq := rfl
@[simp] theorem State.setReg_prs (n : Nat) (r : RegState) : (s.setReg n r).prs = s.prs := rfl
@[simp] theorem State.setReg_spg (n : Nat) (r : RegState) : (s.setReg n r).spg = s.spg := rfl
@[simp] theorem State.setReg_store (n : Nat) (r : RegState) : (s.setReg n r).store = s.store := rfl
@[simp] theorem State.setReg_lgs (n : Nat) (r : RegState) : (s.setReg n r).lgs = { s.lgs with regStates := s.lgs.regStates.set n r } := rfl
@[simp] theorem State.setReg_cdu (n : Nat) (r : RegState) : (s.setReg n r).cdu = s.cdu := rfl
@[simp] theorem State.setReg_mlk (n : Nat) (r : RegState) : (s.setReg n r).mlk = s.mlk := rfl
@[simp] theorem State.setReg_out (n : Nat) (r : RegState) : (s.setReg n r).out = s.out := rfl
@[simp] theorem State.setReg_freeCount (n : Nat) (r : RegState) : (s.setReg n r).freeCount = s.freeCount := rfl
@[simp] theorem State.setReg_overrun (n : Nat) (r : RegState) : (s.setReg n r).overrun = s.overrun := rfl
@[simp] theorem State.setReg_pending (n : Nat) (r : RegState) : (s.setReg n r).pending = s.pending := rfl

@[simp] theorem State.heard_powered : (s.heard).powered = s.powered := rfl
@[simp] theorem State.heard_time : (s.heard).time = s.time := rfl
@[simp] theorem State.heard_pins : (s.heard).pins = s.pins := rfl
@[simp] theorem State.heard_profile : (s.heard).profile = s.profile := rfl
@[simp] theorem State.heard_noProfile : (s.heard).noProfile = s.noProfile := rfl
@[simp] theorem State.heard_stu : (s.heard).stu = s.stu := rfl
@[simp] theorem State.heard_odu : (s.heard).odu = s.odu := rfl
@[simp] theorem State.heard_ttr : (s.heard).ttr = s.ttr := rfl
@[simp] theorem State.heard_mpu : (s.heard).mpu = s.mpu := rfl
@[simp] theorem State.heard_psc : (s.heard).psc = s.psc := rfl
@[simp] theorem State.heard_wsq : (s.heard).wsq = s.wsq := rfl
@[simp] theorem State.heard_prs : (s.heard).prs = s.prs := rfl
@[simp] theorem State.heard_spg : (s.heard).spg = s.spg := rfl
@[simp] theorem State.heard_store : (s.heard).store = s.store := rfl
@[simp] theorem State.heard_lgs : (s.heard).lgs = s.lgs := rfl
@[simp] theorem State.heard_cdu : (s.heard).cdu = s.cdu := rfl
@[simp] theorem State.heard_mlk : (s.heard).mlk = { s.mlk with silenceFrom := s.mlk.silenceFrom.map fun _ => s.time.now, expired := false } := rfl
@[simp] theorem State.heard_out : (s.heard).out = s.out := rfl
@[simp] theorem State.heard_freeCount : (s.heard).freeCount = s.freeCount := rfl
@[simp] theorem State.heard_overrun : (s.heard).overrun = s.overrun := rfl
@[simp] theorem State.heard_pending : (s.heard).pending = s.pending := rfl

@[simp] theorem State.send_powered (i : TxItem) : (s.send i).powered = s.powered := rfl
@[simp] theorem State.send_time (i : TxItem) : (s.send i).time = s.time := rfl
@[simp] theorem State.send_pins (i : TxItem) : (s.send i).pins = s.pins := rfl
@[simp] theorem State.send_profile (i : TxItem) : (s.send i).profile = s.profile := rfl
@[simp] theorem State.send_noProfile (i : TxItem) : (s.send i).noProfile = s.noProfile := rfl
@[simp] theorem State.send_stu (i : TxItem) : (s.send i).stu = s.stu := rfl
@[simp] theorem State.send_odu (i : TxItem) : (s.send i).odu = s.odu := rfl
@[simp] theorem State.send_ttr (i : TxItem) : (s.send i).ttr = s.ttr := rfl
@[simp] theorem State.send_mpu (i : TxItem) : (s.send i).mpu = s.mpu := rfl
@[simp] theorem State.send_psc (i : TxItem) : (s.send i).psc = s.psc := rfl
@[simp] theorem State.send_wsq (i : TxItem) : (s.send i).wsq = s.wsq := rfl
@[simp] theorem State.send_prs (i : TxItem) : (s.send i).prs = s.prs := rfl
@[simp] theorem State.send_spg (i : TxItem) : (s.send i).spg = s.spg := rfl
@[simp] theorem State.send_store (i : TxItem) : (s.send i).store = s.store := rfl
@[simp] theorem State.send_lgs (i : TxItem) : (s.send i).lgs = s.lgs := rfl
@[simp] theorem State.send_cdu (i : TxItem) : (s.send i).cdu = s.cdu := rfl
@[simp] theorem State.send_mlk (i : TxItem) : (s.send i).mlk = { s.mlk with tx := s.mlk.tx ++ [i] } := rfl
@[simp] theorem State.send_out (i : TxItem) : (s.send i).out = s.out := rfl
@[simp] theorem State.send_freeCount (i : TxItem) : (s.send i).freeCount = s.freeCount := rfl
@[simp] theorem State.send_overrun (i : TxItem) : (s.send i).overrun = s.overrun := rfl
@[simp] theorem State.send_pending (i : TxItem) : (s.send i).pending = s.pending := rfl

@[simp] theorem State.sendTargets_powered (p : Pair) : (s.sendTargets p).powered = s.powered := by
  unfold State.sendTargets; split <;> rfl
@[simp] theorem State.sendTargets_time (p : Pair) : (s.sendTargets p).time = s.time := by
  unfold State.sendTargets; split <;> rfl
@[simp] theorem State.sendTargets_pins (p : Pair) : (s.sendTargets p).pins = s.pins := by
  unfold State.sendTargets; split <;> rfl
@[simp] theorem State.sendTargets_profile (p : Pair) : (s.sendTargets p).profile = s.profile := by
  unfold State.sendTargets; split <;> rfl
@[simp] theorem State.sendTargets_noProfile (p : Pair) : (s.sendTargets p).noProfile = s.noProfile := by
  unfold State.sendTargets; split <;> rfl
@[simp] theorem State.sendTargets_stu (p : Pair) : (s.sendTargets p).stu = s.stu := by
  unfold State.sendTargets; split <;> rfl
@[simp] theorem State.sendTargets_odu (p : Pair) : (s.sendTargets p).odu = s.odu := by
  unfold State.sendTargets; split <;> rfl
@[simp] theorem State.sendTargets_ttr (p : Pair) : (s.sendTargets p).ttr = s.ttr := by
  unfold State.sendTargets; split <;> rfl
@[simp] theorem State.sendTargets_mpu (p : Pair) : (s.sendTargets p).mpu = s.mpu := by
  unfold State.sendTargets; split <;> rfl
@[simp] theorem State.sendTargets_psc (p : Pair) : (s.sendTargets p).psc = s.psc := by
  unfold State.sendTargets; split <;> rfl
@[simp] theorem State.sendTargets_wsq (p : Pair) : (s.sendTargets p).wsq = s.wsq := by
  unfold State.sendTargets; split <;> rfl
@[simp] theorem State.sendTargets_prs (p : Pair) : (s.sendTargets p).prs = s.prs := by
  unfold State.sendTargets; split <;> rfl
@[simp] theorem State.sendTargets_spg (p : Pair) : (s.sendTargets p).spg = s.spg := by
  unfold State.sendTargets; split <;> rfl
@[simp] theorem State.sendTargets_store (p : Pair) : (s.sendTargets p).store = s.store := by
  unfold State.sendTargets; split <;> rfl
@[simp] theorem State.sendTargets_lgs (p : Pair) : (s.sendTargets p).lgs = s.lgs := by
  unfold State.sendTargets; split <;> rfl
@[simp] theorem State.sendTargets_cdu (p : Pair) : (s.sendTargets p).cdu = s.cdu := by
  unfold State.sendTargets; split <;> rfl
@[simp] theorem State.sendTargets_mlk (p : Pair) : (s.sendTargets p).mlk = s.mlk := by
  unfold State.sendTargets; split <;> rfl
@[simp] theorem State.sendTargets_freeCount (p : Pair) : (s.sendTargets p).freeCount = s.freeCount := by
  unfold State.sendTargets; split <;> rfl
@[simp] theorem State.sendTargets_overrun (p : Pair) : (s.sendTargets p).overrun = s.overrun := by
  unfold State.sendTargets; split <;> rfl
@[simp] theorem State.sendTargets_pending (p : Pair) : (s.sendTargets p).pending = s.pending := by
  unfold State.sendTargets; split <;> rfl
theorem State.sendTargets_out (p : Pair) :
    (s.sendTargets p).out = { s.out with headTxd := s.out.headTxd ++ if s.simMotion then [] else [p] } := by
  unfold State.sendTargets; split <;> simp_all

@[simp] theorem State.setHead_powered (h : Head) : (s.setHead h).powered = s.powered := by
  unfold State.setHead; split <;> rfl
@[simp] theorem State.setHead_time (h : Head) : (s.setHead h).time = s.time := by
  unfold State.setHead; split <;> rfl
@[simp] theorem State.setHead_pins (h : Head) : (s.setHead h).pins = s.pins := by
  unfold State.setHead; split <;> rfl
@[simp] theorem State.setHead_profile (h : Head) : (s.setHead h).profile = s.profile := by
  unfold State.setHead; split <;> rfl
@[simp] theorem State.setHead_noProfile (h : Head) : (s.setHead h).noProfile = s.noProfile := by
  unfold State.setHead; split <;> rfl
@[simp] theorem State.setHead_stu (h : Head) : (s.setHead h).stu = s.stu := by
  unfold State.setHead; split <;> rfl
@[simp] theorem State.setHead_odu (h : Head) : (s.setHead h).odu = s.odu := by
  unfold State.setHead; split <;> rfl
@[simp] theorem State.setHead_ttr (h : Head) : (s.setHead h).ttr = s.ttr := by
  unfold State.setHead; split <;> rfl
@[simp] theorem State.setHead_mpu (h : Head) : (s.setHead h).mpu = s.mpu := by
  unfold State.setHead; split <;> rfl
@[simp] theorem State.setHead_psc (h : Head) : (s.setHead h).psc = s.psc := by
  unfold State.setHead; split <;> rfl
@[simp] theorem State.setHead_wsq (h : Head) : (s.setHead h).wsq = s.wsq := by
  unfold State.setHead; split <;> rfl
@[simp] theorem State.setHead_spg (h : Head) : (s.setHead h).spg = s.spg := by
  unfold State.setHead; split <;> rfl
@[simp] theorem State.setHead_store (h : Head) : (s.setHead h).store = s.store := by
  unfold State.setHead; split <;> rfl
@[simp] theorem State.setHead_lgs (h : Head) : (s.setHead h).lgs = s.lgs := by
  unfold State.setHead; split <;> rfl
@[simp] theorem State.setHead_cdu (h : Head) : (s.setHead h).cdu = s.cdu := by
  unfold State.setHead; split <;> rfl
@[simp] theorem State.setHead_mlk (h : Head) : (s.setHead h).mlk = s.mlk := by
  unfold State.setHead; split <;> rfl
@[simp] theorem State.setHead_out (h : Head) : (s.setHead h).out = s.out := by
  unfold State.setHead; split <;> rfl
@[simp] theorem State.setHead_freeCount (h : Head) : (s.setHead h).freeCount = s.freeCount := by
  unfold State.setHead; split <;> rfl
@[simp] theorem State.setHead_overrun (h : Head) : (s.setHead h).overrun = s.overrun := by
  unfold State.setHead; split <;> rfl
@[simp] theorem State.setHead_pending (h : Head) : (s.setHead h).pending = s.pending := by
  unfold State.setHead; split <;> rfl

@[simp] theorem State.raise_powered (f : Flag) (d : Detail) : (s.raise f d).powered = s.powered := by
  unfold State.raise; simp only; split; rfl; split <;> rfl
@[simp] theorem State.raise_time (f : Flag) (d : Detail) : (s.raise f d).time = s.time := by
  unfold State.raise; simp only; split; rfl; split <;> rfl
@[simp] theorem State.raise_pins (f : Flag) (d : Detail) : (s.raise f d).pins = s.pins := by
  unfold State.raise; simp only; split; rfl; split <;> rfl
@[simp] theorem State.raise_profile (f : Flag) (d : Detail) : (s.raise f d).profile = s.profile := by
  unfold State.raise; simp only; split; rfl; split <;> rfl
@[simp] theorem State.raise_noProfile (f : Flag) (d : Detail) : (s.raise f d).noProfile = s.noProfile := by
  unfold State.raise; simp only; split; rfl; split <;> rfl
@[simp] theorem State.raise_stu (f : Flag) (d : Detail) : (s.raise f d).stu = s.stu := by
  unfold State.raise; simp only; split; rfl; split <;> rfl
@[simp] theorem State.raise_odu (f : Flag) (d : Detail) : (s.raise f d).odu = s.odu := by
  unfold State.raise; simp only; split; rfl; split <;> rfl
@[simp] theorem State.raise_ttr (f : Flag) (d : Detail) : (s.raise f d).ttr = s.ttr := by
  unfold State.raise; simp only; split; rfl; split <;> rfl
@[simp] theorem State.raise_mpu (f : Flag) (d : Detail) : (s.raise f d).mpu = s.mpu := by
  unfold State.raise; simp only; split; rfl; split <;> rfl
@[simp] theorem State.raise_psc (f : Flag) (d : Detail) : (s.raise f d).psc = s.psc := by
  unfold State.raise; simp only; split; rfl; split <;> rfl
@[simp] theorem State.raise_wsq (f : Flag) (d : Detail) : (s.raise f d).wsq = s.wsq := by
  unfold State.raise; simp only; split; rfl; split <;> rfl
@[simp] theorem State.raise_prs (f : Flag) (d : Detail) : (s.raise f d).prs = s.prs := by
  unfold State.raise; simp only; split; rfl; split <;> rfl
@[simp] theorem State.raise_spg (f : Flag) (d : Detail) : (s.raise f d).spg = s.spg := by
  unfold State.raise; simp only; split; rfl; split <;> rfl
@[simp] theorem State.raise_store (f : Flag) (d : Detail) : (s.raise f d).store = s.store := by
  unfold State.raise; simp only; split; rfl; split <;> rfl
@[simp] theorem State.raise_lgs (f : Flag) (d : Detail) : (s.raise f d).lgs = s.lgs := by
  unfold State.raise; simp only; split; rfl; split <;> rfl
@[simp] theorem State.raise_out (f : Flag) (d : Detail) : (s.raise f d).out = s.out := by
  unfold State.raise; simp only; split; rfl; split <;> rfl
@[simp] theorem State.raise_freeCount (f : Flag) (d : Detail) : (s.raise f d).freeCount = s.freeCount := by
  unfold State.raise; simp only; split; rfl; split <;> rfl
@[simp] theorem State.raise_overrun (f : Flag) (d : Detail) : (s.raise f d).overrun = s.overrun := by
  unfold State.raise; simp only; split; rfl; split <;> rfl
@[simp] theorem State.raise_pending (f : Flag) (d : Detail) : (s.raise f d).pending = s.pending := by
  unfold State.raise; simp only; split; rfl; split <;> rfl

@[simp] theorem State.choose_powered (n : Nat) : (s.choose n).2.powered = s.powered := rfl
@[simp] theorem State.choose_time (n : Nat) : (s.choose n).2.time = s.time := rfl
@[simp] theorem State.choose_pins (n : Nat) : (s.choose n).2.pins = s.pins := rfl
@[simp] theorem State.choose_profile (n : Nat) : (s.choose n).2.profile = s.profile := rfl
@[simp] theorem State.choose_noProfile (n : Nat) : (s.choose n).2.noProfile = s.noProfile := rfl
@[simp] theorem State.choose_stu (n : Nat) : (s.choose n).2.stu = s.stu := rfl
@[simp] theorem State.choose_odu (n : Nat) : (s.choose n).2.odu = s.odu := rfl
@[simp] theorem State.choose_ttr (n : Nat) : (s.choose n).2.ttr = s.ttr := rfl
@[simp] theorem State.choose_mpu (n : Nat) : (s.choose n).2.mpu = s.mpu := rfl
@[simp] theorem State.choose_psc (n : Nat) : (s.choose n).2.psc = s.psc := rfl
@[simp] theorem State.choose_wsq (n : Nat) : (s.choose n).2.wsq = s.wsq := rfl
@[simp] theorem State.choose_prs (n : Nat) : (s.choose n).2.prs = s.prs := rfl
@[simp] theorem State.choose_spg (n : Nat) : (s.choose n).2.spg = s.spg := rfl
@[simp] theorem State.choose_store (n : Nat) : (s.choose n).2.store = s.store := rfl
@[simp] theorem State.choose_lgs (n : Nat) : (s.choose n).2.lgs = s.lgs := rfl
@[simp] theorem State.choose_cdu (n : Nat) : (s.choose n).2.cdu = s.cdu := rfl
@[simp] theorem State.choose_mlk (n : Nat) : (s.choose n).2.mlk = s.mlk := rfl
@[simp] theorem State.choose_out (n : Nat) : (s.choose n).2.out = s.out := rfl
@[simp] theorem State.choose_overrun (n : Nat) : (s.choose n).2.overrun = s.overrun := rfl
@[simp] theorem State.choose_pending (n : Nat) : (s.choose n).2.pending = s.pending := rfl

end Sys2Proof.Machine
end

