-- ==== Sys2Proof/Laws/Cascade.lean ====
section
/-! SUPPORT. What the hand-offs of one step can do, said once: induction over them, the frame they keep, when several sets of
them follow one another. -/

namespace Sys2Proof.Machine

/-! ### Induction over the hand-offs of a step -/

/-- A property of the state with the hand-offs still waiting, kept by every single hand-off, holds at the end: the hand-offs
are all done, or the mark `overrun` is set. -/
theorem run_induct {P : State → List Work → Prop}
    (h : ∀ s w ws, P s (w :: ws) → P (handle w s).1 ((handle w s).2 ++ ws)) :
    ∀ n ws s, P s ws → P (run n ws s) [] ∨ ∃ u vs, P u vs ∧ run n ws s = { u with overrun := true }
  | _, [], s, p => Or.inl (by simpa [run] using p)
  | 0, w :: ws, s, p => Or.inr ⟨s, w :: ws, p, rfl⟩
  | n + 1, w :: ws, s, p => run_induct h n _ _ (h s w ws p)

/-- A property of the state that every hand-off keeps, whatever it is, is kept by a step's hand-offs. -/
theorem run_keeps {P : State → Prop} (h : ∀ w s, P s → P (handle w s).1) (ho : ∀ s, P s → P { s with overrun := true })
    (n : Nat) (ws : List Work) (s : State) (p : P s) : P (run n ws s) := by
  rcases run_induct (P := fun s _ => P s) (fun s w _ p => h w s p) n ws s p with q | ⟨u, _, q, e⟩
  · exact q
  · rw [e]; exact ho u q

/-- A property that the hand-offs of a class keep, the class closed under what they hand on. -/
theorem run_within {P : State → Prop} {W : Work → Prop} (h : ∀ w s, W w → P s → P (handle w s).1)
    (hw : ∀ w s, W w → P s → ∀ v ∈ (handle w s).2, W v) (ho : ∀ s, P s → P { s with overrun := true })
    (n : Nat) (ws : List Work) (s : State) (hws : ∀ w ∈ ws, W w) (p : P s) : P (run n ws s) := by
  rcases run_induct (P := fun s ws => P s ∧ ∀ w ∈ ws, W w)
      (fun s w ws q => ⟨h w s (q.2 w (List.mem_cons_self ..)) q.1, fun v hv => by
        rcases List.mem_append.1 hv with hv | hv
        · exact hw w s (q.2 w (List.mem_cons_self ..)) q.1 v hv
        · exact q.2 v (List.mem_cons_of_mem _ hv)⟩) n ws s ⟨p, hws⟩ with q | ⟨u, _, q, e⟩
  · exact q.1
  · rw [e]; exact ho u q.1

/-- The mark `overrun` is never removed inside a step. -/
theorem run_nil (n : Nat) (s : State) : run n [] s = s := by cases n <;> rfl

theorem run_cons (n : Nat) (w : Work) (ws : List Work) (s : State) :
    run (n + 1) (w :: ws) s = run n ((handle w s).2 ++ ws) (handle w s).1 := rfl

/-- The first hand-off of a step is carried out, and what it hands on stands before the rest. -/
theorem cascade_cons (w : Work) (ws : List Work) (s : State) :
    cascade (w :: ws) s = run (Config.handOffBound - 1) ((handle w s).2 ++ ws) (handle w s).1 := rfl

theorem cascade_nil (s : State) : cascade [] s = s := rfl

/-! ### The frame of the hand-offs -/

theorem SameBase.refl (s : State) : SameBase s s := by constructor <;> rfl
theorem SameBase.trans {s t u : State} (a : SameBase s t) (b : SameBase t u) : SameBase s u := by
  constructor <;> first
    | exact b.powered.trans a.powered | exact b.time.trans a.time | exact b.pins.trans a.pins | exact b.profile.trans a.profile
    | exact b.rate.trans a.rate | exact b.noProfile.trans a.noProfile | exact b.store.trans a.store | exact b.odu.trans a.odu | exact b.ring.trans a.ring
    | exact b.held.trans a.held | exact b.plausibleAt.trans a.plausibleAt | exact b.stale.trans a.stale | exact b.lost.trans a.lost
    | exact b.implausible.trans a.implausible | exact b.payload.trans a.payload | exact b.counter.trans a.counter | exact b.spacing.trans a.spacing
    | exact b.mapLock.trans a.mapLock | exact b.program.trans a.program | exact b.badSet.trans a.badSet | exact b.badCount.trans a.badCount
    | exact b.newestSeq.trans a.newestSeq | exact b.newestSlot.trans a.newestSlot | exact b.released.trans a.released
    | exact b.lastResult.trans a.lastResult | exact b.rx.trans a.rx | exact b.lastByteAt.trans a.lastByteAt
    | exact b.rxBuf.trans a.rxBuf | exact b.clock.trans a.clock | exact b.phase.trans a.phase | exact b.pending.trans a.pending
theorem raise_base (s : State) (f : Flag) (d : Detail) : SameBase s (s.raise f d) := by
  unfold State.raise
  simp only
  split
  · constructor <;> rfl
  · split
    · constructor <;> rfl
    · unfold Mlk.notice; split <;> constructor <;> rfl
theorem choose_base (s : State) (n : Nat) : SameBase s (s.choose n).2 := by constructor <;> rfl
theorem arrange_base {α : Type} (n : Nat) (s : State) (l : List α) : SameBase s (State.arrange n s l).2 := by
  induction n generalizing s l with
  | zero => exact .refl s
  | succ n ih =>
    match l with
    | [] => exact .refl s
    | [_] => exact .refl s
    | a :: b :: l => exact (choose_base s (a :: b :: l).length).trans (ih (s.choose (a :: b :: l).length).2 _)

theorem notices_base (m : Mlk) (l : List (Flag × FlagClass × Detail)) :
    (m.notices l).rx = m.rx ∧ (m.notices l).rxBuf = m.rxBuf ∧ (m.notices l).lastByteAt = m.lastByteAt ∧ (m.notices l).time = m.time ∧
      (m.notices l).phase = m.phase := by
  induction l generalizing m with
  | nil => exact ⟨rfl, rfl, rfl, rfl, rfl⟩
  | cons n l ih =>
    have h := ih (m.notice n.1 n.2.1 n.2.2)
    simp only [Mlk.notices, List.foldl_cons] at h ⊢
    rw [h.1, h.2.1, h.2.2.1, h.2.2.2.1, h.2.2.2.2]
    unfold Mlk.notice
    split <;> exact ⟨rfl, rfl, rfl, rfl, rfl⟩

theorem startEnd_base (s : State) : SameBase s (mlkStartEnd s).1 := by
  obtain ⟨h1, h2, h3, h4, h5⟩ := notices_base s.mlk s.cdu.held
  constructor <;> first | rfl | exact h1 | exact h2 | exact h3 | exact h4 | exact h5

theorem sendTargets_base (s : State) (p : Pair) : SameBase s (s.sendTargets p) := by
  unfold State.sendTargets; split <;> constructor <;> rfl

theorem setHead_base (s : State) (h : Head) : SameBase s (s.setHead h) := by
  unfold State.setHead; split <;> constructor <;> rfl

/-- What one millilitre charged can do: it changes the Spray Gate alone, and what is handed on are its reports. -/
theorem charge_spec {o : Bool} {s t : State} {ws : List Work} (h : s.charge o = some (t, ws)) :
    { t with spg := s.spg } = s ∧ t.spg.sections = s.spg.sections ∧ t.spg.reserved = s.spg.reserved ∧
      t.spg.acc = s.spg.acc - Spg.flowUnit s.profile ∧ Spg.flowUnit s.profile ≤ s.spg.acc ∧ s.spg.reserved = true ∧
      s.lgs.halted = false ∧ plain ws = true := by
  unfold State.charge at h
  split at h
  · next r k _ _ =>
    by_cases c : s.canCharge o r k = true
    · rw [if_pos c, Option.some.injEq] at h
      have e1 : t = (s.charged o r k).1 := by rw [h]
      have e2 : ws = (s.charged o r k).2 := by rw [h]
      simp only [State.canCharge, Bool.and_eq_true, Bool.not_eq_true', decide_eq_true_eq] at c
      subst e1 e2
      refine ⟨rfl, rfl, rfl, rfl, c.1.1.2, c.1.1.1.1, c.1.1.1.2, ?_⟩
      simp only [State.charged, plain, List.all_append, Bool.and_eq_true]
      refine ⟨⟨⟨?_, ?_⟩, ?_⟩, ?_⟩ <;> (repeat' split) <;> rfl
    · rw [if_neg c] at h; cases h
  · cases h

theorem SameBase.of_spg {s t : State} (h : { t with spg := s.spg } = s) : SameBase s t := by
  rw [← h]; constructor <;> rfl

/-- What the pending volume taken off can do: it changes the Spray Gate alone, no section among it, and what is handed on are
the reports of the millilitres. -/
theorem chargePending_spec (n : Nat) (s : State) :
    { (s.chargePending n).1 with spg := s.spg } = s ∧ (s.chargePending n).1.spg.sections = s.spg.sections ∧
      (s.chargePending n).1.spg.reserved = s.spg.reserved ∧ plain (s.chargePending n).2 = true := by
  induction n generalizing s with
  | zero => exact ⟨rfl, rfl, rfl, rfl⟩
  | succ n ih =>
    unfold State.chargePending
    split
    · next t ws h =>
      obtain ⟨h1, h2, h3, _, _, _, _, h8⟩ := charge_spec h
      obtain ⟨i1, i2, i3, i4⟩ := ih t
      refine ⟨?_, i2.trans h2, i3.trans h3, ?_⟩
      · have := congrArg (fun u : State => { u with spg := s.spg }) i1
        exact this.trans h1
      · simp only [plain, List.all_append, Bool.and_eq_true] at h8 i4 ⊢
        exact ⟨h8, i4⟩
    · exact ⟨rfl, rfl, rfl, rfl⟩

/-- A hand-off between blocks keeps the frame. -/
theorem handle_base (w : Work) (s : State) (h : plain [w] = true) : SameBase s (handle w s).1 := by
  cases w with
  | occur f d => exact raise_base s f d
  | majorFlag c o m =>
    simp only [handle, cduMajorFlag]
    repeat' split
    all_goals first
      | exact raise_base ..
      | exact (raise_base s _ _).trans (by constructor <;> rfl)
  | profileTaken p n => simp [plain] at h
  | major c o => simp only [handle, cduMajor]; (repeat' (first | (constructor <;> rfl) | split))
  | enterLockout  => simp only [handle, cduLockout]; (repeat' (first | (constructor <;> rfl) | split))
  | compute c => simp only [handle, stuCompute]; (repeat' (first | (constructor <;> rfl) | split))
  | takeResult => simp only [handle, stuTakeResult]; (repeat' (first | (constructor <;> rfl) | split))
  | ceiling => simp only [handle, stuCeiling]; (repeat' (first | (constructor <;> rfl) | split))
  | evalWaiting => simp only [handle, stuEvalWaiting]; (repeat' (first | (constructor <;> rfl) | split))
  | evalOne r => simp only [handle, stuEvaluate]; cases r <;> (repeat' (first | (constructor <;> rfl) | split))
  | trip c => simp only [handle, stuTrip]; (repeat' (first | (constructor <;> rfl) | split))
  | bandGiven => simp only [handle, stuBandGiven]; (repeat' (first | (constructor <;> rfl) | split))
  | recover => simp [plain] at h
  | tankReport q => simp only [handle, stuTankReport, stuItem]; (repeat' (first | (constructor <;> rfl) | split))
  | reload i => simp only [handle, stuReload, stuItem]; cases i <;> (repeat' (first | (constructor <;> rfl) | split))
  | ask r p => simp only [handle, stuAsk, stuEvaluate]; cases r <;> (repeat' (first | (constructor <;> rfl) | split))
  | withdraw r => simp only [handle, stuWithdraw]; cases r <;> (repeat' (first | (constructor <;> rfl) | split))
  | moveStarted r => simp only [handle, stuMoveStarted]; cases r <;> (repeat' (first | (constructor <;> rfl) | split))
  | answer r a => cases r <;> cases a <;> simp only [handle, wsqAnswer, prsAnswer] <;> (repeat' (first | (constructor <;> rfl) | split))
  | sensorFault => simp only [handle, stuSensorFault]; (repeat' (first | (constructor <;> rfl) | split))
  | rpcChanged rose => simp only [handle, oduRpcChanged]; (repeat' (first | (constructor <;> rfl) | split))
  | reverseTest rose => simp only [handle, oduReverseTest]; (repeat' (first | (constructor <;> rfl) | split))
  | clearWeeder n => simp only [handle, ttrClearWeeder]; (repeat' (first | (constructor <;> rfl) | split))
  | purge => simp only [handle, ttrPurge]; (repeat' (first | (constructor <;> rfl) | split))
  | trunksEnd => simp only [handle, ttrEnd]; (repeat' (first | (constructor <;> rfl) | split))
  | trunksDrop t => simp only [handle, ttrDrop]; (repeat' (first | (constructor <;> rfl) | split))
  | mapMove => simp only [handle, mpuMove]; exact arrange_base _ _ _
  | moveCursor c =>
    rcases c with _ | t <;> try cases t
    all_goals simp only [handle, mpuMoveCursor, mpuExit, Mpu.mapBay]; (repeat' (first | (constructor <;> rfl) | split))
  | enter c r =>
    rcases c with _ | t <;> try cases t
    all_goals simp only [handle, mpuEnter]; (repeat' (first | (constructor <;> rfl) | split))
  | missTest t => cases t <;> simp only [handle, mpuMissTest] <;> (repeat' (first | (constructor <;> rfl) | split))
  | barredTest t => simp only [handle, mpuBarredTest]; (repeat' (first | (constructor <;> rfl) | split))
  | actQuery t => cases t <;> simp only [handle, mpuActQuery] <;> (repeat' (first | (constructor <;> rfl) | split))
  | permission t => cases t <;> simp only [handle, wsqDrive, prsPermission, spgDecide] <;> (repeat' (first | (constructor <;> rfl) | split))
  | mapEnd => simp only [handle, mpuEnd]; (repeat' (first | (constructor <;> rfl) | split))
  | suspend c => simp only [handle, pscSuspend]; (repeat' (first | (constructor <;> rfl) | split))
  | passEnd r => simp only [handle, pscEnd]; (repeat' (first | (constructor <;> rfl) | split))
  | dropSprayFields => simp only [handle, pscDropFields]; (repeat' (first | (constructor <;> rfl) | split))
  | drive => simp only [handle, wsqDrive]; (repeat' (first | (constructor <;> rfl) | split))
  | fire => simp only [handle, wsqFire]; (repeat' (first | (constructor <;> rfl) | split))
  | fireEnd n => simp only [handle, wsqFireEnd]; (repeat' (first | (constructor <;> rfl) | split))
  | immediate => simp only [handle, wsqImmediate]; (repeat' (first | (constructor <;> rfl) | split))
  | lift => simp only [handle, wsqLift]; (repeat' (first | (constructor <;> rfl) | split))
  | rebuild => simp only [handle, wsqRebuild]; (repeat' (first | (constructor <;> rfl) | split))
  | queueTrunk n p => simp only [handle, wsqQueueTrunk]; (repeat' (first | (constructor <;> rfl) | split))
  | queueFull n => simp only [handle, wsqQueueFull]; (repeat' (first | (constructor <;> rfl) | split))
  | arm st => simp only [handle, wsqArm]; cases st <;> (repeat' (first | (constructor <;> rfl) | split))
  | weederWithheld st => simp only [handle, wsqWithheld]; (repeat' (first | (constructor <;> rfl) | split))
  | weederTrip => simp only [handle, wsqTrip]; (repeat' (first | (constructor <;> rfl) | split))
  | weederStop => simp only [handle, wsqStop]; (repeat' (first | (constructor <;> rfl) | split))
  | weederEnd => simp only [handle, wsqEnd]; (repeat' (first | (constructor <;> rfl) | split))
  | overflow full => simp only [handle, wsqOverflow]; (repeat' (first | (constructor <;> rfl) | split))
  | issue p =>
    simp only [handle, prsIssue]
    split
    · exact .refl s
    · refine SameBase.trans ?_ (setHead_base _ _)
      repeat' split
      all_goals first | exact .refl s | exact sendTargets_base s p
  | rest => simp only [handle, prsRest]; (repeat' (first | (constructor <;> rfl) | split))
  | headDone => simp only [handle, prsHeadDone]; (repeat' (first | (constructor <;> rfl) | split))
  | consider => simp only [handle, prsConsider]; (repeat' (first | (constructor <;> rfl) | split))
  | startRun n => simp only [handle, prsStartRun]; (repeat' (first | (constructor <;> rfl) | split))
  | enterPhase p => simp only [handle, prsEnterPhase]; (repeat' (first | (constructor <;> rfl) | split))
  | phaseEnd => simp only [handle, prsPhaseEnd]; (repeat' (first | (constructor <;> rfl) | split))
  | endRun o => simp only [handle, prsEndRun]; (repeat' (first | (constructor <;> rfl) | split))
  | outcome n o => simp only [handle, prsOutcome]; (repeat' (first | (constructor <;> rfl) | split))
  | skipAll => simp only [handle, prsSkipAll]; (repeat' (first | (constructor <;> rfl) | split))
  | haltDone => simp only [handle, prsHaltDone]; (repeat' (first | (constructor <;> rfl) | split))
  | prunerTrip => simp only [handle, prsTrip]; (repeat' (first | (constructor <;> rfl) | split))
  | prunerFault => simp only [handle, prsFault]; (repeat' (first | (constructor <;> rfl) | split))
  | prunerStop => simp only [handle, prsStop]; (repeat' (first | (constructor <;> rfl) | split))
  | prunerResume => simp only [handle, prsResume]; (repeat' (first | (constructor <;> rfl) | split))
  | prunerEnd d => simp only [handle, prsEnd]; (repeat' (first | (constructor <;> rfl) | split))
  | trunkLost n p => simp only [handle, prsTrunkLost]; (repeat' (first | (constructor <;> rfl) | split))
  | decide => simp only [handle, spgDecide]; (repeat' (first | (constructor <;> rfl) | split))
  | seek =>
    simp only [handle, spgSeek, spgGrant]
    repeat' split
    all_goals first
      | exact (SameBase.of_spg (s := s) (by rfl)).trans (.of_spg (chargePending_spec _ _).1)
      | (constructor <;> rfl)
  | seekForFlow => simp only [handle, spgSeekForFlow]; (repeat' (first | (constructor <;> rfl) | split))
  | takeOff =>
    simp only [handle, spgTakeOff]
    split
    · next h => exact .of_spg (charge_spec h).1
    · exact .refl s
  | sprayEntry => simp only [handle, spgEntry]; (repeat' (first | (constructor <;> rfl) | split))
  | closeRecord => simp only [handle, spgClose]; (repeat' (first | (constructor <;> rfl) | split))
  | sprayStop => simp only [handle, spgStop]; (repeat' (first | (constructor <;> rfl) | split))
  | roomReport => simp only [handle, spgRoomReport]; (repeat' (first | (constructor <;> rfl) | split))
  | stage r => simp only [handle, lgsStage]; (repeat' (first | (constructor <;> rfl) | split))
  | arbiter => simp only [handle, lgsArbiter]; (repeat' (first | (constructor <;> rfl) | split))
  | halt => simp only [handle, lgsHalt]; (repeat' (first | (constructor <;> rfl) | split))
  | nearFull => simp only [handle, lgsNearFull]; (repeat' (first | (constructor <;> rfl) | split))
  | startReports => simp only [handle, lgsStartReports]; (repeat' (first | (constructor <;> rfl) | split))
  | startEndTest => simp only [handle, mlkStartEndTest]; (repeat' (first | (constructor <;> rfl) | split))
  | startEnd => exact startEnd_base s
  | frameIn f => simp [plain] at h
  | discard r => simp only [handle, mlkDiscard]; (repeat' (first | (constructor <;> rfl) | split))

/-! ### What hand-offs hand on -/

theorem plain_append (a b : List Work) : plain (a ++ b) = (plain a && plain b) := by
  simp [plain, List.all_append]
theorem plain_map {α : Type} (f : α → Work) (l : List α) (h : ∀ a, plain [f a] = true) :
    plain (l.map f) = true := by
  induction l with
  | nil => rfl
  | cons a l ih => rw [List.map_cons, show f a :: l.map f = [f a] ++ l.map f from rfl, plain_append, h a, ih]; rfl
theorem plain_flatMap {α : Type} (f : α → List Work) (l : List α) (h : ∀ a, plain (f a) = true) :
    plain (l.flatMap f) = true := by
  induction l with
  | nil => rfl
  | cons a l ih => rw [List.flatMap_cons, plain_append, h a, ih]; rfl
/-- A hand-off between blocks hands on no other kind. -/
theorem handle_plain (w : Work) (s : State) (h : plain [w] = true) : plain (handle w s).2 = true := by
  cases w
  case profileTaken p n => simp [plain] at h
  case recover => simp [plain] at h
  case frameIn f => simp [plain] at h
  case answer r a => cases r <;> cases a <;> simp only [handle, wsqAnswer, prsAnswer] <;> repeat' (first | rfl | split)
  case permission t => cases t <;> simp only [handle, wsqDrive, prsPermission, spgDecide] <;> repeat' (first | rfl | split)
  case occur f d =>  cases f <;> cases d <;> simp only [handle, cduOccur, Flag.minorCause] <;> repeat' (first | rfl | split)
  case major c o => cases c <;> rfl
  case takeOff =>
    simp only [handle, spgTakeOff]
    split
    · next h => rw [plain_append, (charge_spec h).2.2.2.2.2.2.2]; rfl
    · rfl
  case seek =>
    simp only [handle, spgSeek, spgGrant]
    repeat' (first | rfl | (rw [plain_append, (chargePending_spec _ _).2.2.2]; rfl) | split)
  case mapMove => simp only [handle, mpuMove]; exact plain_map _ _ (fun _ => rfl)
  case skipAll => simp only [handle, prsSkipAll]; exact plain_map _ _ (fun _ => rfl)
  case rebuild => 
    simp only [handle, wsqRebuild, plain_append]
    rw [plain_map _ _ (fun _ => rfl), plain_flatMap _ _ (fun _ => plain_map _ _ (fun _ => rfl))]
    split <;> rfl
  case moveCursor c => rcases c with _ | t <;> simp only [handle, mpuMoveCursor, mpuExit] <;> (try cases t) <;> repeat' (first | rfl | split)
  case enter c r => rcases c with _ | t <;> (try cases t) <;> rfl
  case evalOne r => cases r <;> simp only [handle, stuEvaluate] <;> repeat' (first | rfl | split)
  case ask r p => cases r <;> simp only [handle, stuAsk, stuEvaluate] <;> repeat' (first | rfl | split)
  all_goals
    simp only [handle, cduMajorFlag, cduLockout, stuCompute, Published.clipReport, stuTakeResult,
      stuCeiling, stuEvalWaiting,
      stuTrip, stuBandGiven, stuReload, stuTankReport, stuItem, stuWithdraw, stuMoveStarted, stuSensorFault, oduRpcChanged,
      oduReverseTest, ttrClearWeeder, ttrPurge, ttrEnd, ttrDrop, mpuMissTest, mpuBarredTest, mpuActQuery,
      mpuEnd, pscSuspend, pscEnd, pscDropFields, wsqDrive, wsqFire, wsqFireEnd, wsqImmediate, wsqLift,
      wsqQueueTrunk, wsqQueueFull, wsqArm, wsqWithheld, wsqTrip, wsqStop, wsqEnd, wsqOverflow, prsIssue,
      prsRest, prsHeadDone, prsConsider, prsStartRun, prsEnterPhase, prsPhaseEnd, prsEndRun, prsOutcome,
      prsHaltDone, prsTrip, prsFault, prsStop, prsResume, prsEnd, prsTrunkLost, spgDecide,
      spgSeekForFlow, spgEntry, spgClose, spgStop, spgRoomReport, lgsStage, lgsArbiter, lgsHalt,
      lgsNearFull, lgsStartReports, mlkStartEndTest, mlkStartEnd, mlkDiscard]
    repeat' (first | rfl | split)

/-- The hand-offs between blocks in a step keep the frame. -/
theorem run_base (n : Nat) (ws : List Work) (s : State) (h : plain ws = true) : SameBase s (run n ws s) := by
  refine run_within (P := SameBase s) (W := fun w => plain [w] = true) (fun w u hw p => p.trans (handle_base w u hw))
    (fun w u hw _ v hv => ?_) (fun u p => p.trans (by constructor <;> rfl)) n ws s ?_ (.refl s)
  · have := handle_plain w u hw
    simp only [plain, List.all_eq_true] at this ⊢
    intro x hx; rw [List.mem_singleton.1 hx]; exact this v hv
  · simp only [plain, List.all_eq_true] at h ⊢
    intro w hw x hx; rw [List.mem_singleton.1 hx]; exact h w hw

theorem cascade_base (ws : List Work) (s : State) (h : plain ws = true) : SameBase s (cascade ws s) :=
  run_base _ ws s h

end Sys2Proof.Machine
end

