-- ==== Sys2Proof/Laws/Command.lean ====
section
/-! SUPPORT. What taking and answering a command does, said once: the frame taken, the refusals, the reply. -/

namespace Sys2Proof.Machine

variable (f : Frame) (s : State)

/-! ### The frame taken -/

/-- Taking a frame changes the link's transmit queue, buffer and silence timer, and nothing else. -/
theorem takeFrame_eq :
    takeFrame f s = { s with mlk := { s.mlk with tx := flushReplies s.mlk.tx, rxBuf := (takeFrame f s).mlk.rxBuf,
                                                 silenceFrom := (takeFrame f s).mlk.silenceFrom,
                                                 expired := (takeFrame f s).mlk.expired } } := by
  unfold takeFrame
  simp only
  split <;> rfl

@[simp] theorem takeFrame_powered : (takeFrame f s).powered = s.powered := by rw [takeFrame_eq]
@[simp] theorem takeFrame_time : (takeFrame f s).time = s.time := by rw [takeFrame_eq]
@[simp] theorem takeFrame_pins : (takeFrame f s).pins = s.pins := by rw [takeFrame_eq]
@[simp] theorem takeFrame_profile : (takeFrame f s).profile = s.profile := by rw [takeFrame_eq]
@[simp] theorem takeFrame_noProfile : (takeFrame f s).noProfile = s.noProfile := by rw [takeFrame_eq]
@[simp] theorem takeFrame_stu : (takeFrame f s).stu = s.stu := by rw [takeFrame_eq]
@[simp] theorem takeFrame_odu : (takeFrame f s).odu = s.odu := by rw [takeFrame_eq]
@[simp] theorem takeFrame_ttr : (takeFrame f s).ttr = s.ttr := by rw [takeFrame_eq]
@[simp] theorem takeFrame_mpu : (takeFrame f s).mpu = s.mpu := by rw [takeFrame_eq]
@[simp] theorem takeFrame_psc : (takeFrame f s).psc = s.psc := by rw [takeFrame_eq]
@[simp] theorem takeFrame_wsq : (takeFrame f s).wsq = s.wsq := by rw [takeFrame_eq]
@[simp] theorem takeFrame_prs : (takeFrame f s).prs = s.prs := by rw [takeFrame_eq]
@[simp] theorem takeFrame_spg : (takeFrame f s).spg = s.spg := by rw [takeFrame_eq]
@[simp] theorem takeFrame_store : (takeFrame f s).store = s.store := by rw [takeFrame_eq]
@[simp] theorem takeFrame_lgs : (takeFrame f s).lgs = s.lgs := by rw [takeFrame_eq]
@[simp] theorem takeFrame_cdu : (takeFrame f s).cdu = s.cdu := by rw [takeFrame_eq]
@[simp] theorem takeFrame_out : (takeFrame f s).out = s.out := by rw [takeFrame_eq]
@[simp] theorem takeFrame_freeCount : (takeFrame f s).freeCount = s.freeCount := by rw [takeFrame_eq]
@[simp] theorem takeFrame_overrun : (takeFrame f s).overrun = s.overrun := by rw [takeFrame_eq]
@[simp] theorem takeFrame_pending : (takeFrame f s).pending = s.pending := by rw [takeFrame_eq]
@[simp] theorem takeFrame_tx : (takeFrame f s).mlk.tx = flushReplies s.mlk.tx := by rw [takeFrame_eq]
@[simp] theorem takeFrame_rx : (takeFrame f s).mlk.rx = s.mlk.rx := by rw [takeFrame_eq]
@[simp] theorem takeFrame_lastByteAt : (takeFrame f s).mlk.lastByteAt = s.mlk.lastByteAt := by rw [takeFrame_eq]
@[simp] theorem takeFrame_lostNotices : (takeFrame f s).mlk.lostNotices = s.mlk.lostNotices := by rw [takeFrame_eq]
@[simp] theorem takeFrame_clock : (takeFrame f s).mlk.time = s.mlk.time := by rw [takeFrame_eq]
@[simp] theorem takeFrame_phase : (takeFrame f s).mlk.phase = s.mlk.phase := by rw [takeFrame_eq]
@[simp] theorem takeFrame_mode : (takeFrame f s).mode = s.mode := by simp [State.mode]

/-! ### The reply -/

/-- A row whose frame the link takes next: the frame taken and dealt with. -/
theorem serve_takes {act : State → State} (h : s.powered = true) (t : s.takes f = true) :
    serve f act s = .next (act (takeFrame f s)).finish := by
  simp [serve, live, h, t]

/-- A row whose frame the link does not take next: the frame received, and nothing else done. -/
theorem serve_held {act : State → State} (h : s.powered = true) (t : s.takes f = false) (n : f.payload.length ≤ 120) :
    serve f act s = .next (cascade [.frameIn f] s).finish := by
  simp [serve, live, h, t, Nat.not_lt.2 n]

/-- What a command that is taken answers, all told: refused by mode, by length, by its own tests, or carried out and replied
to. -/
theorem command_eq {kind : Nat} {tag : Byte} {payload : List Byte} {inMode : State → Bool} {lengthOk : Bool}
    {body : State → Except Reason Accepted} (h : s.powered = true)
    (t : s.takes ⟨BitVec.ofNat 8 kind, tag, payload⟩ = true) :
    command kind tag payload inMode lengthOk body s =
      .next (answer ⟨BitVec.ofNat 8 kind, tag, payload⟩ inMode lengthOk body
        (takeFrame ⟨BitVec.ofNat 8 kind, tag, payload⟩ s)).finish := by
  exact serve_takes _ s h t

theorem answer_mode {m : State → Bool} {l : Bool} {b : State → Except Reason Accepted} (h : m s = false) :
    answer f m l b s = refuse f (modeReason s.mode) s := by
  simp [answer, h]

theorem answer_length {m : State → Bool} {l : Bool} {b : State → Except Reason Accepted} (h : m s = true)
    (hl : l = false) : answer f m l b s = refuse f .badLength s := by
  simp [answer, h, hl]

theorem answer_error {m : State → Bool} {l : Bool} {b : State → Except Reason Accepted} {r : Reason} (h : m s = true)
    (hl : l = true) (hb : b s = .error r) : answer f m l b s = refuse f r s := by
  simp [answer, h, hl, hb]

theorem answer_ok {m : State → Bool} {l : Bool} {b : State → Except Reason Accepted} {a : Accepted} (h : m s = true)
    (hl : l = true) (hb : b s = .ok a) :
    answer f m l b s = (cascade a.2.1 a.1).send (.ok f.kind f.tag (a.2.2 (cascade a.2.1 a.1)) 0) := by
  simp [answer, h, hl, hb, accept]

/-- The output pins depend on nothing that `finish` changes, so that they stay as they are once given. -/
@[simp] theorem State.pinsOut_finish : s.finish.pinsOut = s.pinsOut := rfl

end Sys2Proof.Machine
end

