-- ==== Sys2Proof/Laws/Flags.lean ====
section
/-! SUPPORT. Reading and writing one flag, and what an occurrence does to the flags (R191). -/

namespace Sys2Proof.Machine

@[simp] theorem Flags.get_put_same (fs : Flags) (f : Flag) (v : FlagState) : (fs.put f v).get f = v := by
  cases f <;> rfl

theorem Flags.get_put_other (fs : Flags) {f g : Flag} (v : FlagState) (h : g ≠ f) : (fs.put f v).get g = fs.get g := by
  cases f <;> cases g <;> first | rfl | exact absurd rfl h

@[simp] theorem Flags.get_mapAll (fs : Flags) (k : FlagState → FlagState) (f : Flag) : (fs.mapAll k).get f = k (fs.get f) := by
  cases f <;> rfl

theorem Flags.get_put_cls (fs : Flags) (f g : Flag) (d : Option Detail) :
    ((fs.put f { fs.get f with detail := d }).get g).cls = (fs.get g).cls := by
  by_cases h : g = f
  · subst h; simp
  · rw [Flags.get_put_other fs _ h]

/-- An occurrence sets its flag with its detail, keeps the flag's class and every other flag (R191). -/
theorem State.raise_flags (s : State) (f : Flag) (d : Detail) :
    (s.raise f d).cdu.flags = s.cdu.flags.put f { s.cdu.flags.get f with detail := some d } := by
  unfold State.raise
  simp only
  split
  · rfl
  · split <;> rfl

@[simp] theorem State.raise_get_same (s : State) (f : Flag) (d : Detail) :
    (s.raise f d).cdu.flags.get f = { s.cdu.flags.get f with detail := some d } := by
  rw [State.raise_flags, Flags.get_put_same]

theorem State.raise_get_other (s : State) {f g : Flag} (d : Detail) (h : g ≠ f) :
    (s.raise f d).cdu.flags.get g = s.cdu.flags.get g := by
  rw [State.raise_flags, Flags.get_put_other _ _ h]

/-- A flag that is SET stays SET at every occurrence (R191). -/
theorem State.raise_isSet (s : State) (f g : Flag) (d : Detail) (h : (s.cdu.flags.get g).isSet = true) :
    ((s.raise f d).cdu.flags.get g).isSet = true := by
  by_cases e : g = f
  · subst e; simp [FlagState.isSet]
  · rw [State.raise_get_other s d e]; exact h

/-- An occurrence at a SET flag or at one of class OFF sends nothing (R191). -/
theorem State.raise_quiet (s : State) (f : Flag) (d : Detail)
    (h : ((s.cdu.flags.get f).isSet || (s.cdu.flags.get f).cls == .off) = true) : (s.raise f d).mlk = s.mlk := by
  unfold State.raise
  simp only
  rw [if_pos h]

end Sys2Proof.Machine
end

