-- ==== Sys2Proof/Laws/Quiet.lean ====
section
/-! SUPPORT. Hand-offs that change little, each said once with the condition under which it does so, and how a step's hand-offs
are carried out one after another. -/

namespace Sys2Proof.Machine

variable (s : State)

/-! ### One hand-off after another -/

/-- A step's hand-offs, with enough of the bound in sight to carry out a hundred of them. -/
theorem cascade_eq (ws : List Work) : cascade ws s = run (999999999900 + 100) ws s := rfl

/-- The first hand-off carried out, with what it hands on in front of the rest. -/
theorem run_one {n : Nat} {w : Work} {ws vs : List Work} {s u : State} (h : handle w s = (u, vs)) :
    run (n + 1) (w :: ws) s = run n (vs ++ ws) u := by
  rw [run_cons, h]

/-- A hand-off that hands nothing on. -/
theorem run_leaf {n : Nat} {w : Work} {ws : List Work} {s u : State} (h : handle w s = (u, [])) :
    run (n + 1) (w :: ws) s = run n ws u := by
  rw [run_cons, h]; rfl

/-! ### Hand-offs that change nothing -/

theorem handle_reload_same {i : Item} (h : s.itemNow i = s.stu.load.get i) : handle (.reload i) s = (s, []) := by
  simp [handle, stuReload, stuItem, h]

theorem handle_recover_off (h : s.stu.band ≠ .tripped) : handle .recover s = (s, []) := by
  simp only [handle, stuRecover]
  split
  · next b _ => exact absurd b h
  · rfl

theorem handle_takeResult_none (h : s.stu.published = none) : handle .takeResult s = (s, []) := by
  simp [handle, stuTakeResult, h]

/-- A good result in NORMAL changes nothing at the band machine (R29). -/
theorem handle_takeResult_normal {r : Published} (h : s.stu.published = some r) (b : s.stu.band = .normal)
    (e : s.profile.sTrip ≤ r.margin.sEff) (c : s.profile.sCaution ≤ r.margin.sEff) : handle .takeResult s = (s, []) := by
  simp [handle, stuTakeResult, h, b, Int.not_lt.2 e, Int.not_lt.2 c]

theorem handle_takeResult_latched (b : s.stu.band = .latched) : handle .takeResult s = (s, []) := by
  cases h : s.stu.published <;> simp [handle, stuTakeResult, h, b]

theorem handle_evalWaiting_none (w : s.stu.weederAdm = none) (p : s.stu.prunerAdm = none) :
    handle .evalWaiting s = (s, [.evalOne .weeder, .evalOne .pruner]) := by
  simp [handle, stuEvalWaiting, Stu.status, w, p]

theorem handle_evalOne_none {r : Requester} (h : s.stu.status r = none) : handle (.evalOne r) s = (s, []) := by
  simp [handle, stuEvaluate, h]

theorem handle_consider_off (h : (s.running && s.selected .pruner && !s.prs.fault && s.prs.run.isNone) = false) :
    handle .consider s = (s, []) := by
  simp [handle, prsConsider, h]

theorem handle_consider_none (h : s.ttr.candidate = none) : handle .consider s = (s, []) := by
  simp only [handle, prsConsider, h]
  split <;> simp_all

theorem handle_suspend_idle (c : Suspension) (h : s.inPass = false) : handle (.suspend c) s = (s, []) := by
  simp [handle, pscSuspend, h]

theorem handle_arbiter_idle (o : s.lgs.op = none) (w : s.lgs.waiting = []) : handle .arbiter s = (s, []) := by
  simp [handle, lgsArbiter, o, w, takeFirst]

/-! ### The sections outside a RUNNING pass with SPRAY -/

theorem State.sprayTerms_off (h : (s.running && s.selected .spray) = false) :
    s.sprayTerms.sections = Six.all (.closed .notRunning) := by
  simp [SprayTerms.sections, State.sprayTerms, SprayTerms.state, h, Six.zip, Six.all]

/-- A decision with every section NOT_RUNNING leaves the open record as it is (R156). -/
theorem OpenRecord.decided_off (r : OpenRecord) (c : Bool) : r.decided (Six.all (.closed .notRunning)) c = r := by
  rcases r with ⟨b, e, ⟨_, _, _, _, _, _⟩, v, vc, ol, ⟨_, _, _, _, _, _, _⟩, rw, lk⟩
  simp [OpenRecord.decided, Six.all, Six.map, Six.zip, Six.any, Section.isOpen, Section.isPartial]

/-- Outside a RUNNING pass with SPRAY selected a decision closes every section as NOT_RUNNING (R154, R155). -/
theorem handle_decide_off (h : (s.running && s.selected .spray) = false) :
    handle .decide s = ({ s with spg := { s.spg with sections := Six.all (.closed .notRunning) } }, []) := by
  have e := s.sprayTerms_off h
  have q : (({ s.sprayTerms with permission := some .opened, reserved := true } : SprayTerms).sections.map
      Section.isOpen).any = false := by
    simp [SprayTerms.sections, State.sprayTerms, SprayTerms.state, h, Six.zip, Six.map, Six.any, Section.isOpen]
  simp only [handle, spgDecide, e, q, Bool.and_false, Bool.false_eq_true, ↓reduceIte]
  rw [if_neg (by simp [Six.all, Six.map, Six.any])]
  simp only [OpenRecord.decided_off, Option.map_id']

end Sys2Proof.Machine
end

