-- ==== Sys2Proof/Laws/Store.lean ====
section
/-! SUPPORT. The log ring keeps its canonical form and reads back what was written (R176). -/

namespace Sys2Proof.Machine

theorem LogRing.read_write_same (r : LogRing) (n : Nat) (v : SlotContent) : LogRing.read (LogRing.write r n v) n = some v := by
  induction r with
  | nil => simp [LogRing.write, LogRing.read]
  | cons c rest ih =>
    obtain ⟨a, x⟩ := c
    unfold LogRing.write
    split
    · simp [LogRing.read]
    · split
      · simp [LogRing.read]
      · next h1 h2 => simp [LogRing.read, Ne.symm h2, ih]

theorem LogRing.read_write_other (r : LogRing) {n m : Nat} (v : SlotContent) (h : m ≠ n) :
    LogRing.read (LogRing.write r n v) m = LogRing.read r m := by
  induction r with
  | nil => simp [LogRing.write, LogRing.read, Ne.symm h]
  | cons c rest ih =>
    obtain ⟨a, x⟩ := c
    unfold LogRing.write
    split
    · simp [LogRing.read, Ne.symm h]
    · split
      · next h2 => subst h2; simp [LogRing.read, Ne.symm h]
      · simp [LogRing.read, ih]

/-- The canonical form, as a fact about the slots: strictly rising, all below 4096. -/
theorem LogRing.wf_iff (r : LogRing) :
    LogRing.wf r = true ↔ (r.Pairwise fun x y => x.1 < y.1) ∧ ∀ c ∈ r, c.1 < Config.ringSlots := by
  induction r with
  | nil => simp [LogRing.wf]
  | cons c rest ih =>
    obtain ⟨a, x⟩ := c
    cases rest with
    | nil => simp [LogRing.wf]
    | cons d rest =>
      obtain ⟨b, y⟩ := d
      rw [LogRing.wf, Bool.and_eq_true, ih]
      simp only [decide_eq_true_eq, List.pairwise_cons, List.mem_cons]
      constructor
      · rintro ⟨h, ⟨h1, h2⟩, h3⟩
        have hb := h3 (b, y) (Or.inl rfl)
        refine ⟨⟨?_, h1, h2⟩, ?_⟩
        · rintro z (rfl | hz)
          · exact h
          · exact Nat.lt_trans h (h1 z hz)
        · rintro z (rfl | rfl | hz)
          · exact Nat.lt_trans h hb
          · exact hb
          · exact h3 z (Or.inr hz)
      · rintro ⟨⟨h1, h2, h3⟩, h4⟩
        exact ⟨h1 (b, y) (Or.inl rfl), ⟨h2, h3⟩, fun z hz => h4 z (Or.inr hz)⟩

theorem LogRing.mem_write {r : LogRing} {n : Nat} {v : SlotContent} {c : Nat × SlotContent} (h : c ∈ LogRing.write r n v) :
    c = (n, v) ∨ c ∈ r := by
  induction r with
  | nil => simpa [LogRing.write] using h
  | cons d rest ih =>
    obtain ⟨a, x⟩ := d
    unfold LogRing.write at h
    split at h
    · simpa using h
    · split at h
      · rcases List.mem_cons.1 h with h | h
        · exact Or.inl h
        · exact Or.inr (List.mem_cons_of_mem _ h)
      · rcases List.mem_cons.1 h with h | h
        · exact Or.inr (h ▸ List.mem_cons_self ..)
        · exact (ih h).imp id (List.mem_cons_of_mem _)

/-- A write keeps the canonical form. -/
theorem LogRing.write_wf {r : LogRing} {n : Nat} (v : SlotContent) (h : LogRing.wf r = true) (hn : n < Config.ringSlots) :
    LogRing.wf (LogRing.write r n v) = true := by
  rw [LogRing.wf_iff] at h ⊢
  refine ⟨?_, fun c hc => ?_⟩
  · obtain ⟨h, -⟩ := h
    induction r with
    | nil => simp [LogRing.write]
    | cons d rest ih =>
      obtain ⟨a, x⟩ := d
      obtain ⟨h1, h2⟩ := List.pairwise_cons.1 h
      unfold LogRing.write
      split
      · next hlt =>
        refine List.pairwise_cons.2 ⟨fun z hz => ?_, h⟩
        rcases List.mem_cons.1 hz with rfl | hz
        · exact hlt
        · exact Nat.lt_trans hlt (h1 z hz)
      · split
        · next he => subst he; exact List.pairwise_cons.2 ⟨h1, h2⟩
        · next hlt hne =>
          refine List.pairwise_cons.2 ⟨fun z hz => ?_, ih h2⟩
          rcases LogRing.mem_write hz with rfl | hz
          · exact Nat.lt_of_le_of_ne (Nat.le_of_not_lt hlt) (Ne.symm hne)
          · exact h1 z hz
  · rcases LogRing.mem_write hc with rfl | hc
    · exact hn
    · exact h.2 c hc

theorem firstGood_lt (bad : List Nat) (k n : Nat) : firstGood bad k n < Config.ringSlots := by
  induction k generalizing n with
  | zero => exact Nat.mod_lt _ (by decide)
  | succ k ih =>
    unfold firstGood
    split
    · exact ih _
    · exact Nat.mod_lt _ (by decide)

/-- The next slot for a write is a slot of the ring (R176). -/
theorem Lgs.nextSlot_lt (l : Lgs) : l.nextSlot < Config.ringSlots := firstGood_lt ..

/-- Writing the next slot keeps the ring's form. -/
theorem State.writeSlot_wf (s : State) (c : SlotContent) (h : LogRing.wf s.store.ring = true) :
    LogRing.wf (s.writeSlot s.lgs.nextSlot c).store.ring = true :=
  LogRing.write_wf c h (Lgs.nextSlot_lt _)

/-- A registration cell is changed at its own slot alone. -/
theorem State.mapReg_other (s : State) (n k : Nat) (f : RegCell → RegCell) (h : k ≠ n) :
    (s.mapReg n f).store.regs[k]? = s.store.regs[k]? := by
  simp [Ne.symm h]

end Sys2Proof.Machine
end

