-- ==== Sys2Proof/WellFormed.lean ====
section
/-! DEFINITION. Which rows can reach the part: what the sensor reports, what a frame carries, what a discard is. A meaning
is total on ill-formed rows too. -/

namespace Sys2Proof

open Sys2Proof.Machine

/-- An axis of the accelerometer as it reports it (R10). -/
def axisOk (v : Int) : Bool := within (-4000) 4000 v

/-- A payload of a frame: at most 120 bytes (R200). -/
def payloadOk (payload : List Byte) : Bool := decide (payload.length ≤ 120)

/-- A reason a frame in progress can end for at a byte (R200). -/
def byteReason : DiscardReason → Bool
  | .length => true
  | .crc => true
  | .framing => true
  | .gap => false
  | .full => false

/-- A row is well formed. -/
def Instr.wf : Instr → Bool
  | .samplePeriod (some r) => axisOk r.1 && axisOk r.2.1 && axisOk r.2.2
  | .samplePeriod none => true
  | .validFrame _ _ p => payloadOk p
  | .frameDiscard r _ => byteReason r
  | .unknownKind k _ p => payloadOk p && !commandKinds.contains k.toNat
  | .status _ p | .reset _ p | .park _ p | .wake _ p | .setTime _ p | .ackConditions _ p | .setConditionClass _ p
  | .profileWrite _ p | .profileRead _ p | .stabRead _ p | .setPayload _ p | .clearLatch _ p | .fill _ p | .tankRead _ p
  | .mapClear _ p | .loadBays _ p | .mapRead _ p | .setBayPermit _ p | .setBayProtect _ p | .confirmBay _ p
  | .mapLock _ p | .mapUnlock _ p | .passOpen _ p | .passHold _ p | .passResume _ p | .passClose _ p | .toolSet _ p
  | .passRead _ p | .weederRecover _ p | .weederRead _ p | .pruneProgram _ p | .pruneArm _ p | .pruneHalt _ p
  | .pruneRead _ p | .trunkRead _ p | .logStatus _ p | .logRead _ p | .logRelease _ p _ | .regProgram _ p
  | .regRead _ p => payloadOk p
  | .powerOn | .resetLine | .profileCheckDone | .logScanDone | .regScanDone | .staleTimerExpiry | .lostTimerExpiry
  | .recoveryExpiry | .encoderTransition _ _ | .speedRecord | .postCapture | .feelerCapture | .armExt _ | .armRet _
  | .armDeadlineExpiry | .simArmMoveDone | .headInpos _ | .headDeadlineExpiry | .simHeadMoveDone | .phaseTimerExpiry
  | .stepWaitExpiry | .flowPulse | .storeOperationBegin | .recordWriteBegin | .recordWriteAttemptDone _
  | .regProgramPartDone _ | .profileWriteComplete _ | .silenceExpiry | .secondsTick | .keyChange _ | .frameGapTimeout
  | .frameSent | .powerLoss | .byteReceived _ | .ceilPeriodStart => true

end Sys2Proof
end

