-- ==== Sys2Proof/Tests/Slice0.lean ====
section
/-! SUPPORT. Tests: ill-formed rows refused, the spec's worked figures, one step of each row on a small state, and for each
statement with hypotheses the states and operands that meet them. Expected values come from the tables and examples of
spec/, or by hand from them. -/

namespace Sys2Proof.Tests

open Sys2Proof Sys2Proof.Machine

/-! ### States -/

def levelSample : Sample := ⟨⟨0, 0, 1000⟩, false⟩

def levelRing : Ring4 := ⟨levelSample, levelSample, levelSample, levelSample⟩

/-- A published result of the greatest margin. -/
def level : Published :=
  { margin := ⟨0, 0, 1000, 1000, 1000, .lateral, .right, ⟨false, false, false, false, false⟩, 1000⟩
    composite := ⟨2000, 0, 0, 700⟩, a := ⟨0, 0, 1000⟩, cause := .arrival, sampleState := .fresh, c := 1500 }

def levelTrip : TripRecord :=
  ⟨.stability, 100, 100, .lateral, .left, ⟨false, false, false, false, false⟩, .fresh, false⟩

/-- IDLE past STARTUP, everything at rest, on level ground. -/
def idle : State :=
  { State.reset with
    noProfile := false
    psc := { Psc.boot with mode := .idle }
    stu := { Stu.boot 0 with ring := some levelRing, held := some ⟨0, 0, 1000⟩, published := some level }
    wsq := { Wsq.boot with arm := some .retracted }
    prs := { Prs.boot with head := Head.simRest }
    mlk := { Mlk.boot 0 with phase := .sampleWait, silenceFrom := some 0 } }

def key (s : State) : State := { s with pins := { s.pins with service := true } }

def mode (m : Mode) (s : State) : State := { s with psc := { s.psc with mode := m } }

def off : State := { State.reset with powered := false }

def parked : State := mode .parked idle

def lockout : State := mode .lockout idle

def phase (p : StartPhase) : State := { State.reset with mlk := { Mlk.boot 0 with phase := p } }

def passRec (tools : ToolSet) (rehearsal : Nat) (suspension : Option Suspension) : PassRecord :=
  { row := 7, passId := 9, start := 1000, tools, rehearsal
    spray := if tools.spray then some ⟨5, 700, 2200, Six.all true⟩ else none
    suspension, suspendedAt := none, suspensions := 0 }

def inPass (p : PassRecord) (s : State) : State := { s with psc := ⟨.pass, some p, none⟩ }

def weederOnly : ToolSet := ⟨true, false, false⟩
def prunerOnly : ToolSet := ⟨false, true, false⟩
def sprayOnly : ToolSet := ⟨false, false, true⟩

def running (t : ToolSet) : State := inPass (passRec t 0 none) idle

def suspended (t : ToolSet) : State := inPass (passRec t 0 (some .host)) idle

def band (b : Band) (s : State) : State := { s with stu := { s.stu with band := b } }

def arm (a : ArmState) (s : State) : State := { s with wsq := { s.wsq with arm := some a, deadline := some 1200 } }

def weederAt (i : LoadItem) (s : State) : State := { s with stu := { s.stu with load := { s.stu.load with weeder := i } } }

def headAt (i : LoadItem) (s : State) : State := { s with stu := { s.stu with load := { s.stu.load with head := i } } }

def program : Program := ⟨.each, [⟨⟨100, 50⟩, ⟨true, false, false, false⟩, 1, 2, false⟩, ⟨⟨0, 0⟩, Cutters.off, 3, 2, true⟩]⟩

def trunk : Trunk := { number := 4, pos := 500, bay := none, weederClaim := true, prunerClaim := true, outcome := none }

def run : Run := ⟨4, 0, .dwell, some 20, false, none, false, false, false⟩

def withRun (r : Run) (s : State) : State :=
  { s with prs := { s.prs with program := some program, armed := true, run := some r }
           ttr := { s.ttr with trunks := [trunk], counter := 5 } }

/-- A DEFERRED step, its record WAITING, while the head moves to rest. -/
def restingWhileDeferred : State :=
  let s := withRun { run with phase := .move, timer := none, deferred := true, stepWait := some 500 }
    (inPass (passRec ⟨false, true, false⟩ 0 none) idle)
  headAt (itemHead Config.defaults ⟨900, 60⟩)
    { s with prs := { s.prs with head := ⟨.moving, Pair.rest, ⟨900, 60⟩, false, some 9⟩ }
             stu := { s.stu with prunerAdm := some ⟨⟨100, 50⟩, ⟨900, 60⟩, .waiting⟩ } }

/-- The MOVE of the first step with the head at its targets. -/
def atStepTarget : State :=
  let s := withRun { run with phase := .move, timer := none } (inPass (passRec ⟨false, true, false⟩ 0 none) idle)
  { s with prs := { s.prs with head := ⟨.atTarget, ⟨100, 50⟩, ⟨100, 50⟩, true, none⟩ } }

/-- Bay 41 of the worked case of spec 08, its length 6000 from 33020. -/
def bay41 : Bay :=
  { index := 41, start := 33020, length := 6000, weeder := .opened, pruner := .confirm, spray := .opened
    mask := ⟨true, true, false, true, true, false⟩, protect := false, confirmed := ToolSet.empty, visited := ToolSet.empty }

def mapped (s : State) : State := { s with mpu := { s.mpu with window := [bay41] } }

def locked (s : State) : State := { s with mpu := { s.mpu with mapLock := true } }

def openRecord : OpenRecord :=
  { bay := some 41, entry := 33020, opened := Six.all false, volOpen := 0, volClosed := 0, openLength := 0
    flags := ⟨false, false, false, false, false, false, false⟩, roomWait := false, leak := false }

def spraying (s : State) : State :=
  { s with spg := { s.spg with openRec := some openRecord, reserved := true, tank := some ⟨120000, 1000⟩, acc := 350 } }

def record (n : Nat) : SprayRecord :=
  { seq := n, bay := some 41, entry := 33020, exit := 39020, opened := Six.all true
    flags := ⟨false, false, false, false, false, false, false⟩, volOpen := 800, volClosed := 0, openLength := 5000
    row := 7, passId := 9, product := 5, slot := 2, time := none, rate := some 727 }

def op (o : Option StoreOp) (s : State) : State := { s with lgs := { s.lgs with op := o } }

def waiting (w : List Request) (s : State) : State := { s with lgs := { s.lgs with waiting := w } }

/-- Three records written, one released, of a store that can hold them. -/
def logged (s : State) : State :=
  { s with store := { s.store with ring := [(0, .record (record 1)), (1, .record (record 2)), (2, .record (record 3))]
                                   markA := some 1, markB := some 0 }
           lgs := { s.lgs with newestSeq := 3, newestSlot := some 2, released := 1 } }

def setFlag (f : Flag) (d : Detail) (s : State) : State :=
  { s with cdu := { s.cdu with flags := s.cdu.flags.put f { s.cdu.flags.get f with detail := some d } } }

/-- The state after a row. -/
def after (i : Instr) (s : State) : State :=
  match exec i s with
  | .next t => t
  | .fault _ => s
  | .refused _ => s

/-- The refusal that waits in the transmit queue. -/
def refusal (s : State) : Option Reason :=
  s.mlk.tx.findSome? fun i =>
    match i with
    | .refused _ _ r => some r
    | .ok _ _ _ _ => none
    | .notice _ _ _ => none

/-- The result of the OK reply that waits in the transmit queue. -/
def result (s : State) : Option OkResult :=
  s.mlk.tx.findSome? fun i =>
    match i with
    | .ok _ _ r _ => some r
    | .refused _ _ _ => none
    | .notice _ _ _ => none

/-! ### Ill-formed rows -/

theorem test_wf_sample_axis : (Instr.samplePeriod (some (4001, 0, 0))).wf = false ∧ (Instr.samplePeriod (some (0, -4001, 0))).wf = false ∧
    (Instr.samplePeriod (some (0, 0, 4001))).wf = false ∧ (Instr.samplePeriod (some (4000, -4000, 0))).wf = true := by decide

theorem test_wf_payload : (Instr.validFrame 1#8 0#8 (List.replicate 121 0#8)).wf = false ∧
    (Instr.logRead 0#8 (List.replicate 121 0#8)).wf = false ∧ (Instr.logRead 0#8 (List.replicate 120 0#8)).wf = true := by
  decide +kernel

theorem test_wf_discard : (Instr.frameDiscard .gap 0#8).wf = false ∧ (Instr.frameDiscard .full 0#8).wf = false ∧
    (Instr.frameDiscard .crc 0#8).wf = true := by decide

theorem test_wf_unknownKind : (Instr.unknownKind 0x30#8 0#8 []).wf = false ∧ (Instr.unknownKind 0x0A#8 0#8 []).wf = true := by
  decide

theorem test_no_row_has_bits : decodeTableWord 8 1 = none ∧ State.withFetchWord idle 8 1 = idle := by decide +kernel

/-! ### The spec's worked figures -/

/-- R200: the check value of the CRC. -/
theorem test_crc : crc16 [0x31#8, 0x32#8, 0x33#8, 0x34#8, 0x35#8, 0x36#8, 0x37#8, 0x38#8, 0x39#8] = 0x29B1 := by
  decide +kernel

/-- R18: W of 650 and D_y of -700 give -76. -/
theorem test_lateral_margin : (1000 * (650 - 700 : Int)).tdiv 650 = -76 := by decide

/-- R22: a margin of 449 gives 663 mm/s at the defaults; R41: a duty of 442. -/
theorem test_ceiling : ceilingOf Config.defaults 449 = 663 ∧ ceilingOf Config.defaults 700 = 1500 ∧ 1000 * 663 / 1500 = 442 := by
  decide

/-- R169: 727 L/ha, and no deviation from 700. -/
theorem test_rate : sprayRate 800 5000 2200 = some 727 ∧ rateDeviates Config.defaults 727 700 = false := by decide

/-- R11: both examples. -/
theorem test_trim : (trimSample { Config.defaults with trimY := 150 } (0, 3900, 1000)) = ⟨⟨0, 4000, 1000⟩, true⟩ ∧
    (trimSample { Config.defaults with trimY := -120 } (0, 4000, 1000)) = ⟨⟨0, 3880, 1000⟩, true⟩ := by decide

/-- Table 11-4: a STATUS frame's bytes, SYNC, LEN 2, KIND 1, TAG. -/
theorem test_frame_bytes : (frameBytes 1#8 7#8 []).take 4 = [0x5A#8, 2#8, 1#8, 7#8] ∧ (frameBytes 1#8 7#8 []).length = 6 := by
  decide

/-! ### One step of each row -/

theorem test_powerOn : (after .powerOn off).mode = .startup ∧ (after .powerOn off).powered = true := by decide +kernel

theorem test_resetLine : (after .resetLine lockout).mode = .startup ∧ (after .resetLine (locked idle)).mpu.mapLock = false := by
  decide +kernel

theorem test_powerLoss : (after .powerLoss idle).powered = false ∧ (after .powerLoss idle).out = Out.off := by decide +kernel

theorem test_profileCheckDone : (after .profileCheckDone State.reset).mlk.phase = .logScan ∧
    (after .profileCheckDone State.reset).noProfile = true := by decide +kernel

theorem test_logScanDone : (after .logScanDone (logged (phase .logScan))).lgs.newestSeq = 3 ∧
    (after .logScanDone (logged (phase .logScan))).lgs.released = 1 := by decide +kernel

theorem test_regScanDone : (after .regScanDone (phase .regScan)).lgs.regStates = List.replicate 8 .blank ∧
    (after .regScanDone (phase .regScan)).mlk.phase = .sampleWait := by decide +kernel

theorem test_samplePeriod : (after (.samplePeriod (some (0, 0, 1000))) idle).stu.held = some ⟨0, 0, 1000⟩ ∧
    (after (.samplePeriod none) idle).stu = idle.stu := by decide +kernel

theorem test_staleTimerExpiry : (after .staleTimerExpiry idle).stu.stale = true ∧
    ((after .staleTimerExpiry idle).cdu.flags.get .sensorStale).isSet = true := by decide +kernel

theorem test_lostTimerExpiry :
    (after .lostTimerExpiry { idle with stu := { idle.stu with stale := true } }).stu.band = .tripped := by decide +kernel

theorem test_recoveryExpiry :
    (after .recoveryExpiry { band .tripped idle with stu := { (band .tripped idle).stu with recovery := some 0 } }).stu.band =
      .caution := by decide +kernel

theorem test_encoderTransition : (after (.encoderTransition true false) idle).odu.prescaler = 1 ∧
    (after (.encoderTransition false true) idle).odu.prescaler = -1 := by decide +kernel

theorem test_speedRecord :
    (after .speedRecord { idle with odu := { idle.odu with rpc := 12 } }).odu.speed = 60 := by decide +kernel

theorem test_postCapture :
    (after .postCapture (mapped { running prunerOnly with odu := { idle.odu with rpc := 36000 } })).odu.lastPost =
      some ⟨36000, 36000, some 33020, 0, .mismatch⟩ := by decide +kernel

theorem test_feelerCapture : (after .feelerCapture (suspended weederOnly)).ttr.trunks.map (fun r => (r.number, r.weederClaim)) =
    [(0, true)] := by decide +kernel

theorem test_armExt : (after (.armExt true) (arm .extending idle)).wsq.arm = some .extended := by decide +kernel

theorem test_armRet : (after (.armRet true) (arm .stalled idle)).wsq.arm = some .retracted := by decide +kernel

theorem test_armDeadlineExpiry : (after .armDeadlineExpiry (arm .retracting idle)).wsq.arm = some .stalled ∧
    (after .armDeadlineExpiry (arm .retracting idle)).wsq.stall = true := by decide +kernel

theorem test_simArmMoveDone :
    (after .simArmMoveDone { inPass (passRec weederOnly 3 (some .host)) idle with
      wsq := { idle.wsq with simArm := .extending, simDue := some 200 } }).wsq.simArm = .extended := by decide +kernel

theorem test_headInpos :
    (after (.headInpos true) { idle with prs := { idle.prs with head := ⟨.moving, ⟨0, 0⟩, ⟨1800, 600⟩, false, some 9⟩ } }).prs.head =
      ⟨.atTarget, ⟨0, 0⟩, ⟨0, 0⟩, true, none⟩ := by decide +kernel

/-- The indication of a rest move whose report has the DEFERRED step granted: its targets go out, and its MOVE waits. -/
theorem test_headInpos_deferred :
    let t := after (.headInpos true) restingWhileDeferred
    t.prs.run.map (fun r => (r.phase, r.deferred)) = some (.move, false) ∧ t.prs.head.state = .moving ∧
      t.prs.head.issued = ⟨100, 50⟩ := by decide +kernel

theorem test_headDeadlineExpiry :
    (after .headDeadlineExpiry { idle with prs := { idle.prs with head := ⟨.moving, ⟨0, 0⟩, ⟨900, 60⟩, false, some 9⟩ } }).prs.head.state =
      .unplaced := by decide +kernel

theorem test_simHeadMoveDone :
    (after .simHeadMoveDone { inPass (passRec prunerOnly 3 (some .host)) idle with
      prs := { idle.prs with simHead := ⟨.moving, ⟨5, 6⟩, ⟨5, 6⟩, false, some 200⟩ } }).prs.simHead.state = .atTarget := by
  decide +kernel

theorem test_phaseTimerExpiry : (after .phaseTimerExpiry (withRun run (running prunerOnly))).prs.run.map (fun r => (r.step, r.phase)) =
    some (1, .delay) := by decide +kernel

theorem test_stepWaitExpiry :
    (after .stepWaitExpiry (withRun { run with phase := .delay, timer := none, deferred := true, stepWait := some 9 }
      (running prunerOnly))).prs.counts.abandoned = 1 := by decide +kernel

theorem test_flowPulse : (after .flowPulse idle).spg.acc = 1000 ∧
    (after .flowPulse (spraying (running sprayOnly))).spg.acc = 150 := by decide +kernel

theorem test_storeOperationBegin :
    (after .storeOperationBegin (waiting [.reg 3 [1#8]] idle)).lgs.op = some (.reg 3 [1#8] .beginMark false) := by decide +kernel

theorem test_recordWriteBegin :
    (after .recordWriteBegin (op (some (.record (record 4) 2 true false)) idle)).lgs.op = some (.record (record 4) 2 false false) := by
  decide +kernel

theorem test_recordWriteAttemptDone :
    LogRing.read (after (.recordWriteAttemptDone true) (op (some (.record (record 4) 1 false false)) (logged idle))).store.ring 3 =
      some (.record (record 4)) := by decide +kernel

theorem test_regProgramPartDone :
    (after (.regProgramPartDone false) (op (some (.reg 3 [1#8] .image false)) idle)).lgs.regStates[3]? = some .damaged := by
  decide +kernel

theorem test_profileWriteComplete :
    (after (.profileWriteComplete false) (op (some (.profile [] 0 false)) idle)).noProfile = true := by decide +kernel

theorem test_silenceExpiry : (after .silenceExpiry idle).out.driveEn = false ∧
    ((after .silenceExpiry idle).cdu.flags.get .hostSilence).isSet = true := by decide +kernel

theorem test_secondsTick :
    (after .secondsTick { idle with mlk := { idle.mlk with time := some 4294967295 } }).mlk.time = some 0 := by decide +kernel

theorem test_keyChange : (after (.keyChange true) (locked idle)).lock = .soft ∧ (locked idle).lock = .hard := by decide +kernel

theorem test_validFrame : (after (.validFrame 1#8 7#8 []) idle).mlk.rxBuf = [⟨1#8, 7#8, []⟩] := by decide +kernel

theorem test_frameDiscard : ((after (.frameDiscard .crc 0#8) idle).cdu.flags.get .linkError).detail = some (.linkError .crc 1) := by
  decide +kernel

theorem test_frameGapTimeout :
    (after .frameGapTimeout { idle with mlk := { idle.mlk with rx := .inFrame [2#8] } }).mlk.rx = .hunting := by decide +kernel

theorem test_frameSent :
    (after .frameSent { idle with mlk := { idle.mlk with tx := [.refused 1#8 2#8 .busy, .refused 3#8 4#8 .busy] } }).mlk.tx =
      [.refused 3#8 4#8 .busy] := by decide +kernel

theorem test_unknownKind : refusal (after (.unknownKind 0x0A#8 7#8 []) lockout) = some .unknownKind := by decide +kernel

theorem test_byteReceived : (after (.byteReceived 0x5A#8) idle).mlk.rx = .inFrame [] ∧
    (after (.byteReceived 0x5B#8) idle).mlk.rx = .hunting := by decide +kernel

theorem test_ceilPeriodStart :
    (after .ceilPeriodStart { idle with stu := { idle.stu with published := some { level with c := 663 } } }).out.ceil = 442 := by
  decide +kernel

theorem test_status : (after (.status 7#8 []) lockout).mode = .lockout ∧ (result (after (.status 7#8 []) lockout)).isSome = true := by
  decide +kernel

theorem test_reset : result (after (.reset 7#8 []) parked) = some (.reset .idle .normal true) := by decide +kernel

theorem test_park : (after (.park 7#8 []) idle).mode = .parked ∧ (after (.park 7#8 []) idle).out.driveEn = false ∧
    refusal (after (.park 7#8 []) (arm .stalled idle)) = some .busy := by decide +kernel

theorem test_wake : (after (.wake 7#8 []) parked).out.driveEn = true ∧ refusal (after (.wake 7#8 []) idle) = some .wrongMode := by
  decide +kernel

theorem test_setTime : (after (.setTime 7#8 [0#8, 0#8, 1#8, 2#8]) idle).mlk.time = some 258 := by decide +kernel

theorem test_ackConditions :
    ((after (.ackConditions 7#8 [0#8, 0#8, 0#8, 2#8]) (setFlag .trip (.trip levelTrip) idle)).cdu.flags.get .trip).isSet = false ∧
    refusal (after (.ackConditions 7#8 [2#8, 0#8, 0#8, 0#8]) idle) = some .outOfRange := by decide +kernel

theorem test_setConditionClass :
    (after (.setConditionClass 7#8 [1#8, 2#8]) (setFlag .caution (.caution 0 .lateral .left) idle)).out.alert = true := by
  decide +kernel

theorem test_profileWrite : (after (.profileWrite 7#8 Config.defaults.image) idle).lgs.profilePending = true ∧
    refusal (after (.profileWrite 7#8 (List.replicate 110 0#8)) idle) = some .outOfRange := by decide +kernel

theorem test_profileRead :
    result (after (.profileRead 7#8 []) idle) = some (.profileRead true false false Config.defaults.values) := by decide +kernel

theorem test_stabRead : refusal (after (.stabRead 7#8 [0#8]) idle) = some .badLength := by decide +kernel

theorem test_setPayload :
    (after (.setPayload 7#8 [0x0B#8, 0xB9#8, 0xF4#8, 0x47#8, 0#8, 5#8, 0xFF#8, 0xFF#8]) idle).stu.load.payload =
      ⟨3000, -3000, 5, 0⟩ := by decide +kernel

theorem test_clearLatch : (after (.clearLatch 7#8 []) (key (band .latched idle))).stu.band = .caution ∧
    refusal (after (.clearLatch 7#8 []) (band .latched idle)) = some .keyRequired := by decide +kernel

theorem test_fill : (after (.fill 7#8 [0#8, 0x1E#8, 0x84#8, 0x81#8, 3#8, 0xE8#8]) idle).spg.tank = some ⟨2000000, 1000⟩ ∧
    refusal (after (.fill 7#8 [0#8, 0#8, 0#8, 1#8, 3#8, 0x1F#8]) idle) = some .outOfRange := by decide +kernel

theorem test_tankRead : refusal (after (.tankRead 7#8 []) parked) = some .parked := by decide +kernel

theorem test_mapClear : result (after (.mapClear 7#8 []) (mapped idle)) = some (.mapClear 1) ∧
    refusal (after (.mapClear 7#8 []) (locked (mapped idle))) = some .locked := by decide +kernel

/-- The record of bay 41 by Table 11-6: index, start, length, codes, mask, PROTECT. -/
theorem test_loadBays :
    (after (.loadBays 7#8 [0#8, 41#8, 0#8, 0#8, 0x80#8, 0xFC#8, 0x17#8, 0x70#8, 0x3B#8, 0x1B#8, 0#8]) idle).mpu.window = [bay41] := by
  decide +kernel

theorem test_mapRead : refusal (after (.mapRead 7#8 [64#8]) idle) = some .outOfRange := by decide +kernel

theorem test_setBayPermit : ((after (.setBayPermit 7#8 [0#8, 41#8, 1#8, 0#8]) (mapped idle)).mpu.bay 41).map (fun b => (b.weeder, b.pruner)) =
    some (.opened, .barred) := by decide +kernel

theorem test_setBayProtect : ((after (.setBayProtect 7#8 [0#8, 41#8, 1#8]) (mapped idle)).mpu.bay 41).map (fun b => b.protect) =
    some true := by decide +kernel

theorem test_confirmBay : ((after (.confirmBay 7#8 [0#8, 41#8, 1#8]) (mapped idle)).mpu.bay 41).map (fun b => b.confirmed) =
    some prunerOnly := by decide +kernel

theorem test_mapLock : result (after (.mapLock 7#8 [1#8]) (mapped idle)) = some (.mapLock .hard 1) := by decide +kernel

theorem test_mapUnlock : (after (.mapUnlock 7#8 []) (key (locked idle))).mpu.mapLock = false ∧
    refusal (after (.mapUnlock 7#8 []) (locked idle)) = some .keyRequired := by decide +kernel

/-- Row 7, pass 9, start 1000, WEEDER, rehearsal 0. -/
theorem test_passOpen : (after (.passOpen 1#8 [0#8, 7#8, 0#8, 9#8, 0#8, 0#8, 3#8, 0xE8#8, 1#8, 0#8]) idle).psc.pass =
    some (passRec weederOnly 0 none) := by decide +kernel

theorem test_passHold : (after (.passHold 1#8 []) (running prunerOnly)).psc.pass.map (fun p => (p.suspension, p.suspensions)) =
    some (some .host, 1) := by decide +kernel

theorem test_passResume : (after (.passResume 1#8 []) (suspended prunerOnly)).running = true := by decide +kernel

theorem test_passClose : (after (.passClose 1#8 []) (running prunerOnly)).mode = .idle ∧
    (after (.passClose 1#8 []) (running prunerOnly)).psc.lastPass = some ⟨passRec prunerOnly 0 none, .closed⟩ := by decide +kernel

theorem test_toolSet : refusal (after (.toolSet 1#8 [0#8]) (running prunerOnly)) = some .outOfRange ∧
    (after (.toolSet 1#8 [1#8]) (running prunerOnly)).tools = weederOnly := by decide +kernel

theorem test_passRead : refusal (after (.passRead 1#8 [0#8]) idle) = some .badLength := by decide +kernel

theorem test_weederRecover : (after (.weederRecover 1#8 []) { idle with wsq := { idle.wsq with stall := true } }).wsq.stall = false ∧
    refusal (after (.weederRecover 1#8 []) (arm .stalled idle)) = some .busy := by decide +kernel

theorem test_weederRead : refusal (after (.weederRead 1#8 []) State.reset) = some .busy := by decide +kernel

/-- EACH, one step of height 100, reach 50, cutter 1 with the end marker, delay 1, dwell 2. -/
theorem test_pruneProgram :
    (after (.pruneProgram 1#8 [1#8, 0#8, 100#8, 0#8, 50#8, 0x81#8, 1#8, 2#8]) idle).prs.program =
      some ⟨.each, [⟨⟨100, 50⟩, ⟨true, false, false, false⟩, 1, 2, true⟩]⟩ := by decide +kernel

theorem test_pruneArm : refusal (after (.pruneArm 1#8 []) idle) = some .noProgram := by decide +kernel

theorem test_pruneHalt : (after (.pruneHalt 1#8 []) (withRun run (running prunerOnly))).prs.run = some { run with halting := true } := by
  decide +kernel

theorem test_pruneRead : refusal (after (.pruneRead 1#8 []) lockout) = some .wrongMode := by decide +kernel

theorem test_trunkRead : refusal (after (.trunkRead 1#8 [32#8]) idle) = some .outOfRange := by decide +kernel

theorem test_logStatus : (result (after (.logStatus 1#8 []) (mode .lockout (logged idle)))).isSome = true := by decide +kernel

theorem test_logRead : result (after (.logRead 1#8 [0#8, 0#8, 0#8, 0#8]) (logged idle)) =
    some (.logRead 3 [record 2, record 3]) := by decide +kernel

theorem test_logRelease : (after (.logRelease 1#8 [0#8, 0#8, 0#8, 3#8] true) (logged idle)).lgs.released = 3 ∧
    (after (.logRelease 1#8 [0#8, 0#8, 0#8, 3#8] true) (logged idle)).store.mark = 3 := by decide +kernel

theorem test_regProgram :
    (after (.regProgram 1#8 [2#8, 30#8, 5#8, 6#8]) (key idle)).lgs.op =
      some (.reg 2 (List.replicate 30 0xFF#8 ++ [5#8, 6#8]) .beginMark false) := by decide +kernel

theorem test_regRead : refusal (after (.regRead 1#8 [8#8]) idle) = some .outOfRange := by decide +kernel

/-! ### States and operands that meet the hypotheses of each statement, clause by clause -/

/-- A state with frames held in the receive buffer. -/
def holding (l : List Frame) (s : State) : State := { s with mlk := { s.mlk with rxBuf := l } }

theorem test_witness_EveryRowAnswersAndKeepsTheQueue : idle.pending = [] ∧ off.powered = false ∧ Instr.armExt true ≠ .powerOn ∧
    Instr.encoderTransition true false ≠ .powerOn := by
  decide

def reg3 (p : RegPart) : StoreOp := .reg 3 [1#8] p false

theorem test_witness_PowerAndTheResetLine : off.powered = false ∧ idle.powered = true ∧ idle.lgs.op = none ∧
    (op (some (.record (record 4) 2 true false)) idle).lgs.op = some (.record (record 4) 2 true false) ∧
    (op (some (.record (record 4) 1 false false)) idle).lgs.op = some (.record (record 4) 1 false false) ∧
    (op (some (reg3 .beginMark)) idle).lgs.op = some (reg3 .beginMark) ∧
    (op (some (reg3 .commitMark)) idle).lgs.op = some (reg3 .commitMark) ∧
    (op (some (.profile [] 0 false)) idle).lgs.op = some (.profile [] 0 false) := by decide

/-- The load items as their sources give them, with a result of the margin `e`. -/
def settled (e : Int) : State :=
  let s := headAt ⟨120, 500, 100, 400⟩ (weederAt ⟨80, 900, 250, 300⟩ idle)
  { s with stu := { s.stu with published := some { level with margin := { level.margin with s := e, sEff := e } } } }

/-- A result one below S_TRIP, at it, one below S_CAUTION and at it; LATCHED; a lost episode. -/
theorem test_witness_ResetCommand :
    let f : Frame := ⟨0x02#8, 7#8, []⟩
    let s := settled Config.defaults.sCaution
    let w := (takeFrame f s).resetBlocks
    let lost : State := { s with stu := { s.stu with lost := true } }
    s.powered = true ∧ s.mode = .idle ∧ parked.mode = .parked ∧ s.takes f = true ∧ s.stu.lost = false ∧
    s.stu.band ≠ .latched ∧ s.stu.load.weeder = w.itemNow .weeder ∧ s.stu.load.head = w.itemNow .head ∧
    (band .latched s).stu.band = .latched ∧ lost.stu.lost = true ∧ lost.stu.published.isSome = true ∧
    (s.stu.published.map fun r => r.margin.sEff) = some s.profile.sCaution ∧ s.profile.sTrip < s.profile.sCaution ∧
    (after (.reset 7#8 []) s).stu.band = .normal ∧ (after (.reset 7#8 []) (settled (s.profile.sCaution - 1))).stu.band = .caution ∧
    (after (.reset 7#8 []) (settled s.profile.sTrip)).stu.band = .caution ∧
    (after (.reset 7#8 []) (settled (s.profile.sTrip - 1))).stu.band = .tripped ∧
    (after (.reset 7#8 []) lost).stu.band = .tripped := by decide +kernel

theorem test_witness_ProfileCheckTakesUpAProfile :
    let s := State.reset
    let t : State := { s with store := { s.store with image := .whole Config.defaults.image (crc16 Config.defaults.image) } }
    s.powered = true ∧ s.mode = .startup ∧ s.mlk.phase = .profileCheck ∧ s.lgs.op = none ∧ s.stu.published = none ∧
    s.stu.band = .normal ∧ s.store.image.profile = none ∧ t.powered = true ∧ t.mode = .startup ∧ t.mlk.phase = .profileCheck ∧
    t.lgs.op = none ∧ t.stu.published = none ∧ t.stu.band = .normal ∧
    t.store.image = .whole Config.defaults.image (crc16 Config.defaults.image) ∧
    Profile.ofImage Config.defaults.image = some Config.defaults := by decide +kernel

/-- A log scan that will find `n` bad slots. -/
def badSlots (n : Nat) : State :=
  let s := phase .logScan
  { s with store := { s.store with ring := (List.range n).map fun i => (2 * i, .badMark) } }

/-- No bad slot, 32, 33 and 34 of them. -/
theorem test_witness_LogScanFindsTheNewestRecord : (phase .logScan).powered = true ∧ (phase .logScan).mode = .startup ∧
    (phase .logScan).mlk.phase = .logScan ∧ (0, SlotContent.record (record 1)) ∈ (logged (phase .logScan)).store.ring ∧
    (after .logScanDone (phase .logScan)).lgs.newestSlot = none ∧
    (after .logScanDone (logged (phase .logScan))).lgs.newestSlot = some 2 ∧
    LogRing.wf (badSlots 33).store.ring = true ∧ (after .logScanDone (badSlots 32)).lgs.halted = false ∧
    (after .logScanDone (badSlots 33)).lgs.halted = true ∧ (after .logScanDone (badSlots 34)).lgs.badCount = 33 := by
  decide +kernel

/-- Without and with a computation before the scan; an escalation pending, 33 bad slots at FAULT_MAJOR SET, and neither; a
first sample at 250 mg and one below. -/
theorem test_witness_RegScanAndTheEndOfStartup :
    let s := phase .regScan
    let t : State := { s with stu := idle.stu }
    let u : State := { t with cdu := { t.cdu with lockoutPending := true } }
    let v : State := setFlag .faultMajor (.major .log (.badCount 33) .startup CauseSet.empty) { t with lgs := { t.lgs with badCount := 33 } }
    let w := phase .sampleWait
    s.powered = true ∧ s.mode = .startup ∧ s.mlk.phase = .regScan ∧ s.stu.published = none ∧ t.powered = true ∧
    t.mode = .startup ∧ t.mlk.phase = .regScan ∧ t.stu.published.isSome = true ∧ u.cdu.lockoutPending = true ∧
    v.lgs.badCount = 33 ∧ (v.cdu.flags.get .faultMajor).isSet = true ∧ (after .regScanDone t).mode = .idle ∧
    (after .regScanDone u).mode = .lockout ∧ (after .regScanDone v).mode = .lockout ∧ w.powered = true ∧ w.mode = .startup ∧
    w.mlk.phase = .sampleWait ∧ w.stu.published = none ∧ w.stu.ring = none ∧ (trimSample w.profile (0, 0, 250)).a.z = 250 ∧
    (after (.samplePeriod (some (0, 0, 250))) w).mode = .idle ∧ (after (.samplePeriod (some (0, 0, 249))) w).mode = .startup ∧
    (after (.samplePeriod (some (0, 0, 250))) w).overrun = false ∧ (phase .logScan).mlk.phase = .logScan ∧
    (⟨true, [], .valid⟩ : RegCell).commit = .valid ∧ RegCell.blank = RegCell.blank ∧
    (⟨true, [], .absent⟩ : RegCell).commit ≠ .valid ∧ (⟨true, [], .absent⟩ : RegCell).begun = true ∧
    (⟨false, [1#8], .absent⟩ : RegCell) ≠ RegCell.blank ∧ (⟨false, [1#8], .absent⟩ : RegCell).commit ≠ .valid ∧
    (⟨false, [1#8], .absent⟩ : RegCell).scan = .damaged := by decide +kernel

/-- The height of 3000 mm with both axes at their ends, a level one, and the margin of -700 at 650. -/
theorem test_witness_MarginOfACompositeUnderTilt :
    ((0 : Int) ≤ 3000 ∧ (3000 : Int) ≤ 3000 ∧ (4000 : Int).natAbs ≤ 4000 ∧ (-4000 : Int).natAbs ≤ 4000) ∧ (0 : Int) < 250 ∧
    0 < Config.defaults.halfTrack ∧ 0 < Config.defaults.tipFront ∧ 0 < Config.defaults.tipRear ∧
    Config.defaults.halfTrack = 650 ∧ (margin Config.defaults true ⟨100, 0, -700, 0⟩ ⟨0, 0, 1000⟩).dy = -700 ∧
    Config.defaults.halfTrack < ((-700 : Int)).natAbs ∧
    (margin Config.defaults true ⟨100, 0, -700, 0⟩ ⟨0, 0, 1000⟩).axis = .lateral ∧
    (margin Config.defaults true ⟨100, 1000, 0, 0⟩ ⟨0, 0, 1000⟩).axis = .longitudinal ∧
    (margin Config.defaults true ⟨100, 1000, 0, 0⟩ ⟨0, 0, 1000⟩).dy = 0 := by decide +kernel

theorem test_witness_CeilingAndItsDuty : 0 ≤ Config.defaults.vMax ∧ Config.defaults.sTrip < Config.defaults.sFull ∧
    (250 : Int) ≤ Config.defaults.sTrip ∧ Config.defaults.sFull ≤ (700 : Int) ∧ (250 : Int) ≤ 251 ∧ idle.powered = true ∧
    (after .ceilPeriodStart parked).out.driveEn = false ∧ (after .ceilPeriodStart idle).out.driveEn = true ∧
    idle.stu.published = some level := by decide +kernel

/-- An arrival whose average a_z is 249 mg and one at 250 mg. -/
theorem test_witness_SampleArrivals :
    let r := levelRing.push (trimSample idle.profile (0, 0, 1000))
    let m := margin idle.profile r.anyClipped (composite idle.stu.load) r.average
    idle.powered = true ∧ idle.mode ≠ .startup ∧ idle.stu.ring = some levelRing ∧
    (levelRing.push (trimSample idle.profile (0, 0, -2004))).average.z = 249 ∧
    (levelRing.push (trimSample idle.profile (0, 0, -2000))).average.z = 250 ∧ idle.stu.published = some level ∧
    idle.stu.band = .normal ∧ idle.stu.weederAdm = none ∧ idle.stu.prunerAdm = none ∧ 250 ≤ r.average.z ∧
    m.clipped.any = false ∧ idle.profile.sCaution ≤ m.sEff ∧ idle.profile.sTrip ≤ m.sEff := by decide +kernel

theorem test_witness_TrimmedSampleEntersTheRing : ({ Config.defaults with trimY := 150 } : Profile).trimY = 150 ∧
    ({ Config.defaults with trimY := -120 } : Profile).trimY = -120 ∧ idle.mode ≠ .startup ∧
    (phase .logScan).mlk.phase ≠ .profileCheck ∧ idle.stu.ring = some levelRing ∧ (phase .logScan).stu.ring = none ∧
    (phase .profileCheck).mode = .startup ∧ (phase .profileCheck).mlk.phase = .profileCheck ∧
    (phase .profileCheck).powered = true := by decide

/-- A weeder in an OPEN bay that may drive out and whose record waits, with S_ADMIT at `n`. -/
def asking (n : Int) : State :=
  let s := mapped (running weederOnly)
  { s with profile := { s.profile with sAdmit := n }
           mpu := { s.mpu with weeder := ⟨some 33020, .bay 41, false, false⟩ }
           wsq := { s.wsq with intent := .armOut }
           stu := { s.stu with weederAdm := some .waiting } }

/-- A sideways tilt: a_z of 250 mg in the average, and a margin below S_TRIP, in both bands that trip. -/
theorem test_witness_LowMarginTrips :
    let r := levelRing.push (trimSample idle.profile (0, 4000, -2000))
    let m := margin idle.profile r.anyClipped (composite idle.stu.load) r.average
    idle.powered = true ∧ idle.mode ≠ .startup ∧ idle.stu.ring = some levelRing ∧ idle.stu.published = some level ∧
    idle.stu.band = .normal ∧ (band .caution idle).stu.band = .caution ∧ r.average = ⟨0, 1000, 250⟩ ∧ 250 ≤ r.average.z ∧
    m.sEff < idle.profile.sTrip ∧ (after (.samplePeriod (some (0, 4000, -2000))) idle).overrun = false ∧
    (after (.samplePeriod (some (0, 4000, -2000))) (asking 350)).stu.weederAdm = none := by decide +kernel

/-- A WAITING record under an S_ADMIT of 900 and of 350 at the arrival of a level sample; a request; both records WAITING. -/
theorem test_witness_LowMarginTrips_admission :
    let s := asking 350
    let r := levelRing.push (trimSample s.profile (0, 0, 1000))
    let m := margin s.profile r.anyClipped (composite s.stu.load) r.average
    let extended := margin s.profile r.anyClipped (composite { s.stu.load with weeder := itemExtended s.profile }) r.average
    let both : State := { s with stu := { s.stu with prunerAdm := some ⟨⟨900, 0⟩, ⟨900, 0⟩, .waiting⟩ } }
    s.powered = true ∧ s.mode ≠ .startup ∧ s.stu.ring = some levelRing ∧ s.stu.published = some level ∧ s.stu.band = .normal ∧
    250 ≤ r.average.z ∧ m.clipped.any = false ∧ s.profile.sCaution ≤ m.sEff ∧ s.profile.sTrip ≤ m.sEff ∧
    s.stu.weederAdm = some .waiting ∧ s.stu.prunerAdm = none ∧ s.profile.sAdmit ≤ extended.sEff ∧
    extended.sEff < (asking 1000).profile.sAdmit ∧ s.driveTerms.none = true ∧ s.simMotion = false ∧
    s.wsq.arm = some .retracted ∧ (after (.samplePeriod (some (0, 0, 1000))) s).overrun = false ∧
    (after (.samplePeriod (some (0, 0, 1000))) s).running = true ∧
    (after (.samplePeriod (some (0, 0, 1000))) s).wsq.arm = some .extending ∧ s.stu.held = some ⟨0, 0, 1000⟩ ∧
    (handle (.ask .weeder Pair.rest) s).1.stu.weederAdm = some .granted ∧
    (handle (.ask .weeder Pair.rest) (band .tripped s)).1.stu.weederAdm = some .waiting ∧ (band .tripped s).stu.band.stops = true ∧
    (handle (.ask .pruner ⟨900, 0⟩) s).1.stu.prunerAdm = some ⟨⟨900, 0⟩, ⟨900, 0⟩, .granted⟩ ∧ idle.stu.status .weeder ≠ some .waiting ∧
    both.stu.status .weeder = some .waiting ∧ both.stu.status .pruner = some .waiting ∧
    (handle (.ask .weeder Pair.rest) s).1.stu.status .weeder = some .granted := by decide +kernel

def stale (s : State) : State := { s with stu := { s.stu with stale := true } }

theorem test_witness_StaleAndLostEpisodes : idle.stu.stale = false ∧ idle.stu.lost = false ∧
    (idle.cdu.flags.get .sensorStale).isSet = false ∧ (stale idle).stu.stale = true ∧ (stale idle).stu.published.isSome = true ∧
    (stale idle).stu.band.stops = false ∧ (stale (phase .logScan)).stu.published = none := by decide

def recovering : State := { band .tripped idle with stu := { (band .tripped idle).stu with recovery := some 5 } }

/-- The result at S_TRIP + HYST, and one below. -/
def resultOf (e : Int) (s : State) : State :=
  { s with stu := { s.stu with published := some { level with margin := { level.margin with sEff := e } } } }

theorem test_witness_RecoveryAndClearLatch :
    let s := key (band .latched (resultOf 279 idle))
    let t := key (band .latched (resultOf 280 (suspended prunerOnly)))
    recovering.powered = true ∧ recovering.stu.band = .tripped ∧ recovering.stu.recovery = some 5 ∧
    recovering.stu.published = some level ∧ recovering.running = false ∧ idle.mode = .idle ∧ idle.pins.service = false ∧
    (key idle).pins.service = true ∧ (key idle).stu.band ≠ .latched ∧ Config.defaults.sTrip + Config.defaults.hyst = 280 ∧
    s.mode = .idle ∧ s.pins.service = true ∧ s.stu.band = .latched ∧ (s.stu.published.map fun r => r.margin.sEff) = some 279 ∧
    t.mode = .pass ∧ t.pins.service = true ∧ t.stu.band = .latched ∧ (t.stu.published.map fun r => r.margin.sEff) = some 280 ∧
    (t.stu.published.map fun r => r.sampleState) = some .fresh ∧ t.running = false ∧
    idle.takes ⟨0x12#8, 7#8, []⟩ = true ∧ s.takes ⟨0x12#8, 7#8, []⟩ = true ∧ t.takes ⟨0x12#8, 7#8, []⟩ = true := by decide

/-- The values held (all zero at reset), and a mass of 3001. -/
theorem test_witness_SetPayloadClamps : idle.mode = .idle ∧ (running prunerOnly).mode = .pass ∧
    idle.stu.load.payload = ⟨0, 0, 0, 0⟩ ∧ signed16 (bigEndian [0x0B#8, 0xB9#8]) = 3001 ∧ idle.stu.held.isSome = true ∧
    idle.takes ⟨0x11#8, 7#8, List.replicate 8 0#8⟩ = true := by decide

theorem test_witness_DrivePermit : (after .speedRecord idle).powered = true ∧ State.reset.mode = .startup ∧ parked.mode = .parked ∧
    lockout.mode = .lockout ∧ ([] : List Byte).length ≤ 120 ∧ idle.mode = .idle ∧ idle.stu.band = .normal ∧
    idle.mlk.rxBuf.length < 4 := by decide +kernel

theorem test_witness_BladeOutput : (after .speedRecord idle).powered = true ∧ idle.mode = .idle ∧
    (inPass (passRec weederOnly 2 none) idle).mode = .pass ∧ 2 ≤ (inPass (passRec weederOnly 2 none) idle).rehearsal ∧
    (running weederOnly).rehearsal < 2 ∧
    idle.takes ⟨0x41#8, 7#8, []⟩ = true ∧ (running weederOnly).takes ⟨0x41#8, 7#8, []⟩ = true := by decide +kernel

/-- A run in its DWELL, live and under code 2; an open section, live and under code 1. -/
theorem test_witness_ActuatorOutputs :
    let flying := fun s : State =>
      ({ s with odu := { s.odu with rpc := 1000, history := (List.range 21).map fun i => 1000 - 20 * i }
                mpu := { s.mpu with window := [{ bay41 with start := 500 }]
                                    spray := ⟨some 1000, .bay 41, false, false⟩ } } : State)
    let cut := after .ceilPeriodStart (withRun run (running prunerOnly))
    let live := after .speedRecord (flying (spraying (running sprayOnly)))
    let water := after .speedRecord (flying (spraying (inPass (passRec sprayOnly 1 none) idle)))
    cut.powered = true ∧ cut.out.cut = ⟨true, false, false, false⟩ ∧ cut.prs.run = some run ∧ run.phase = .dwell ∧
    run.suspended = false ∧ cut.running = true ∧ cut.rehearsal < 2 ∧ (cut.prs.step run).isSome = true ∧
    (after .ceilPeriodStart (withRun run (inPass (passRec prunerOnly 2 none) idle))).out.cut = Cutters.off ∧
    live.powered = true ∧ live.mode = .pass ∧ live.rehearsal = 0 ∧ live.spg.sections.l1 = .opened ∧
    live.spg.sections.l3 = .closed .notInMask ∧ live.out.sections = ⟨true, true, false, true, true, false⟩ ∧
    water.spg.sections.l1 = .opened ∧ water.rehearsal = 1 ∧ water.out.sections = Six.all false ∧
    (after .speedRecord lockout).powered = true ∧ (after .speedRecord lockout).mode = .lockout := by decide +kernel

theorem test_witness_AlertLine : ((setFlag .trip (.trip levelTrip) idle).cdu.flags.get .trip).isSet = true ∧
    (idle.cdu.flags.get .trip).isSet = false ∧ (idle.cdu.flags.get .trip).cls = .urgent ∧ idle.powered = true ∧
    exec .powerOn off = .next (after .powerOn off) ∧ exec .resetLine idle = .next (after .resetLine idle) := by
  refine ⟨?_, ?_, ?_, ?_, rfl, rfl⟩ <;> decide +kernel

/-- A full set of sixteen notices, one place left, the 25 flags and a 26th, flag and class numbers at their ends. -/
theorem test_witness_FlagsAreRaisedClearedAndClassed :
    ((setFlag .clip (.clip level.margin.clipped 0) idle).cdu.flags.get .clip).isSet = true ∧
    (idle.cdu.flags.get .clip).isSet = false ∧ (idle.cdu.flags.get .clip).cls ≠ .off ∧ idle.mode ≠ .startup ∧
    State.reset.mode = .startup ∧ ((idle.mlk.tx.filter TxItem.isNotice).length < 16) ∧
    2 ^ 25 ≤ bigEndian [2#8, 0#8, 0#8, 0#8] ∧ bigEndian [1#8, 255#8, 255#8, 255#8] < 2 ^ 25 ∧
    (0#8 : Byte).toNat = 0 ∧ 25 < (26#8 : Byte).toNat ∧ 2 < (3#8 : Byte).toNat ∧ (25#8 : Byte).toNat = Flag.linkError.number ∧
    (1#8 : Byte).toNat = Flag.caution.number ∧ (2#8 : Byte).toNat = FlagClass.urgent.code ∧ idle.mode = .idle ∧
    idle.takes ⟨0x06#8, 7#8, [1#8, 255#8, 255#8, 255#8]⟩ = true ∧ idle.takes ⟨0x07#8, 7#8, [25#8, 2#8]⟩ = true := by decide

def minor : Detail := .minor (.arm .retracting 0 1200)

def twice : State := setFlag .armTimeout minor (setFlag .faultMajor minor (arm .retracting idle))

theorem test_witness_LockoutIsAbsorbing :
    ({ lockout with pending := [.feelerCapture] } : State).pending = .feelerCapture :: [] ∧ endsModes .feelerCapture = false ∧
    step { lockout with pending := [.feelerCapture] } = .next (after .feelerCapture lockout) ∧
    lockout.powered = true ∧ lockout.mode = .lockout ∧
    frameOf (.park 7#8 []) = some ⟨0x03#8, 7#8, []⟩ ∧ (0x03#8 : Byte) ∉ lockoutKinds ∧ twice.mode = .idle ∧
    twice.wsq.deadline = some 1200 ∧ twice.wsq.arm = some .retracting ∧ (twice.cdu.flags.get .armTimeout).isSet = true ∧
    (twice.cdu.flags.get .faultMajor).isSet = true ∧ (after .armDeadlineExpiry twice).overrun = false ∧
    lockout.takes ⟨0x03#8, 7#8, []⟩ = true := by
  refine ⟨rfl, rfl, rfl, ?_⟩
  decide +kernel

/-- The prescaler at 3 of 4 both ways, at either end of RPC, and a count inside. -/
theorem test_witness_PulsesMoveTheRowPosition : exec .resetLine idle = .next (after .resetLine idle) ∧
    exec .powerOn off = .next (after .powerOn off) ∧ idle.powered = true ∧ phaseStep false false true true = 0 ∧
    phaseStep false false true false ≠ 0 ∧ (1 : Int) ≤ 4 ∧ (-4 : Int) < 3 ∧ (3 : Int) + 1 = 4 ∧ (-3 : Int) + -1 = -4 ∧
    (1048575 : Nat) ≤ 1048575 ∧ (0 : Nat) < 1048575 ∧ idle.mode ≠ .pass := by
  refine ⟨rfl, rfl, ?_⟩
  decide +kernel

/-- One pulse before a change of RPC from `n`, every cursor in its place over bay 41, sections open over an open record. -/
def rolling (t : ToolSet) (n furthest : Nat) (forward : Bool) (queue : List Action) : State :=
  let s := mapped (spraying (running t))
  let o := { s.odu with rpc := n, furthest, prescaler := if forward then s.profile.prescale - 1 else 1 - s.profile.prescale }
  let u : State := { s with odu := o, wsq := { s.wsq with queue }, spg := { s.spg with sections := Six.all .opened } }
  let c := fun k => (⟨some (u.cursorPos k), u.mpu.resolve (u.cursorPos k), false, false⟩ : Cursor)
  { u with mpu := { u.mpu with reference := c .reference, weeder := c (.tool .weeder), pruner := c (.tool .pruner)
                               spray := c (.tool .spray) } }

/-- A rise over the end of bay 41 at the weeder, with an EXTEND due, a RETRACT due and nothing due; a fall by
REVERSE_LIMIT and by one more. -/
theorem test_witness_PulsesMoveTheRowPosition_inPass :
    let lag := Config.defaults.bladeLag.toNat
    let limit := Config.defaults.reverseLimit.toNat
    let out := rolling weederOnly (39019 + lag) (39019 + lag) true [⟨.extend, 39020 + lag, 4, false⟩]
    let back := rolling weederOnly 35000 35000 true [⟨.retract, 35001, 4, false⟩, ⟨.extend, 36000, 4, false⟩]
    let calm := rolling sprayOnly 36000 36000 true []
    let edge := rolling weederOnly 35000 (34999 + limit) false []
    let past := rolling weederOnly 35000 (35000 + limit) false []
    let step := fun (s : State) (forward : Bool) => after (.encoderTransition forward (!forward)) s
    phaseStep false false true false = 1 ∧ phaseStep false false false true = -1 ∧ out.mode = .pass ∧ out.running = true ∧
    (step out true).odu.rpc = out.odu.rpc + 1 ∧ (step out true).overrun = false ∧ (step out true).running = true ∧
    out.selected .weeder = true ∧ (out.mpu.cursor (.tool .weeder)).res = .bay 41 ∧
    (step out true).mpu.weeder.res = .miss ∧ ((step out true).mpu.bay 41).map (fun b => b.visited.weeder) = some true ∧
    ((step out true).cdu.flags.get .mapMiss).isSet = true ∧ (step out true).wsq.intent = .armOut ∧
    (step back true).overrun = false ∧ (step back true).wsq.intent = .armIn ∧ (step back true).wsq.queue.length = 1 ∧
    (step calm true).overrun = false ∧ calm.spg.openRec = some openRecord ∧ calm.openSections.any = true ∧
    ((step calm true).spg.openRec.map fun o => o.openLength) = some 1 ∧ (step edge false).running = true ∧
    (step past false).running = false ∧ ((step past false).psc.pass.bind fun p => p.suspension) = some .reverse := by
  decide +kernel

/-- Outside a pass, and in one where the speed stands at 200 mm/s and every section with a mask bit comes to be open. -/
theorem test_witness_SpeedRecording :
    let s := mapped (spraying (running sprayOnly))
    let u : State := { s with odu := { s.odu with rpc := 40, offset := 32980, history := List.replicate 21 0 }
                              mpu := { s.mpu with spray := ⟨some 33020, .bay 41, false, true⟩ } }
    idle.powered = true ∧ idle.odu.history.length = 21 ∧ idle.running = false ∧
    idle.mode = .idle ∧ (31#8 : Byte).toNat ≤ 31 ∧ idle.takes ⟨0x50#8, 7#8, [31#8]⟩ = true ∧ u.running = true ∧
    u.odu.history.length = 21 ∧
    (({ u with odu := { u.odu with history := 40 :: u.odu.history.take 20 } } : State).sprayTerms.sections.map fun x =>
      x == .closed .reservation).any = false ∧
    (after .speedRecord u).overrun = false ∧ (after .speedRecord u).odu.speed = 200 := by decide +kernel

/-- POST_WINDOW is 300 at the defaults: a bay 300 away, one 301 away; a repeat at 300; a mismatch in the middle of the bay. -/
theorem test_witness_PostCaptures :
    let at_ := fun (n : Nat) (s : State) => ({ s with odu := { s.odu with rpc := n } } : State)
    let r := running prunerOnly
    let again : State := { r with odu := { r.odu with rpc := 1300, postRef := some 1000 } }
    idle.powered = true ∧ idle.mode ≠ .pass ∧ r.powered = true ∧ r.mode = .pass ∧ 0 ≤ r.profile.postWindow ∧
    0 ≤ r.profile.postStep ∧ r.profile.postWindow = 300 ∧ again.odu.postRef = some 1000 ∧ natDistance 1300 1000 ≤ 300 ∧
    (at_ 32719 (mapped r)).odu.postRef = none ∧ ¬ bay41.distance 32719 ≤ 300 ∧ bay41.distance 32720 ≤ 300 ∧
    (at_ 32720 (mapped r)).mpu.nearestBoundary 32720 = some 33020 ∧ natDistance 33020 32720 ≤ 300 ∧
    (at_ 36000 (mapped r)).mpu.nearestBoundary 36000 = some 33020 ∧ 300 < natDistance 33020 36000 ∧
    bay41.distance 36000 ≤ 300 := by decide +kernel

/-- An armed pruner in a RUNNING pass, with no trunk or with a run under way. -/
def fresh (empty : Bool) : State :=
  if empty then { running prunerOnly with prs := { (running prunerOnly).prs with program := some program, armed := true } }
  else withRun run (running prunerOnly)

/-- TRUNK_SPACING is 600 at the defaults: a reference 599 and 600 pitches back; the record that a RUNNING pass keeps. -/
theorem test_witness_FeelerCaptures :
    let at_ := fun (n : Nat) (s : State) =>
      ({ s with odu := { s.odu with rpc := n }, ttr := { s.ttr with spacing := some 1000 } } : State)
    let full : State := { running prunerOnly with ttr := { Ttr.boot with trunks := List.replicate 32 trunk } }
    idle.powered = true ∧ idle.selected .weeder = false ∧ idle.selected .pruner = false ∧
    (at_ 1599 (running weederOnly)).selected .weeder = true ∧ (1599 : Int) < 1000 + Config.defaults.trunkSpacing ∧
    (at_ 1600 (suspended weederOnly)).selected .weeder = true ∧ (1000 : Int) + Config.defaults.trunkSpacing ≤ 1600 ∧
    (at_ 1600 (suspended weederOnly)).wsq.withheld = false ∧ (at_ 1600 (suspended weederOnly)).running = false ∧
    (at_ 1600 (suspended weederOnly)).ttr.trunks.length < 32 ∧ (running prunerOnly).selected .pruner = true ∧
    (running prunerOnly).prs.armed = false ∧ (running prunerOnly).selected .weeder = false ∧
    ({ full with prs := { full.prs with armed := true } } : State).prs.armed = true ∧ full.ttr.spacing = none ∧
    32 ≤ full.ttr.trunks.length ∧ full.selected .pruner = true ∧ full.prs.fault = false ∧
    (running weederOnly).running = true ∧ (running weederOnly).wsq.withheld = false ∧
    0 < (running weederOnly).profile.bladeLag + (running weederOnly).profile.clearAfter ∧ (running weederOnly).wsq.queue = [] ∧
    (after .feelerCapture (running weederOnly)).overrun = false ∧
    (after .feelerCapture (running weederOnly)).ttr.trunks.length = 1 ∧ (fresh true).running = true ∧
    (fresh true).prs.armed = true ∧ (fresh true).prs.run = none ∧ (fresh true).ttr.trunks = [] ∧
    0 < (fresh true).profile.pruneLag - (fresh true).profile.pruneLead ∧ (after .feelerCapture (fresh true)).overrun = false ∧
    (fresh false).prs.run = some run ∧ run.halting = false ∧ (fresh false).stu.prunerAdm = none ∧
    (fresh false).ttr.trunks.length < 32 ∧ (after .feelerCapture (fresh false)).overrun = false ∧
    (running weederOnly).profile.valid = true ∧ (fresh false).profile.valid = true ∧
    ((running weederOnly).ttr.counter :: (running weederOnly).ttr.trunks.map fun x => x.number).Nodup ∧
    ((running weederOnly).wsq.queue.filter fun e => e.deferred).length ≤ 1 ∧ (running weederOnly).wsq.holdQueue = false ∧
    (running weederOnly).odu.rpc = 0 ∧ 0 < (running weederOnly).profile.bladeLag - (running weederOnly).profile.clearBefore ∧
    ((after .feelerCapture (running weederOnly)).wsq.queue.map fun e => e.kind) = [.retract, .extend] ∧
    ({ (running weederOnly).wsq with holdQueue := true } : Wsq).holdQueue = true := by decide +kernel

def bay41Bytes : List Byte := [0#8, 41#8, 0#8, 0#8, 0x80#8, 0xFC#8, 0x17#8, 0x70#8, 0x3B#8, 0x1B#8, 0#8]

/-- A window of `n` bays before bay 41, oldest first, every tool cursor at `q`. -/
def crowded (n q : Nat) (s : State) : State :=
  let c : Cursor := ⟨some q, .none, false, false⟩
  { s with mpu := { s.mpu with
      window := (List.range n).map fun i => { bay41 with index := 100 + i, start := 500 * i, length := 500 }
      weeder := c, pruner := c, spray := c } }

/-- The same in a pass, with every cursor in MISS at 33100, inside bay 41. -/
def missing (s : State) : State :=
  let c : Cursor := ⟨some 33100, .miss, false, true⟩
  { s with odu := { s.odu with rpc := 33100 }
           mpu := { s.mpu with reference := ⟨some 33100, .miss, false, false⟩, weeder := c, pruner := c, spray := c } }

/-- One record and eight; PROTECT coded 2; a clash with the window; and none; 64 places taken, the oldest bay passed at its
end and not at one less; in a pass, with and without a cursor in MISS. -/
theorem test_witness_LoadedBaysEnterTheWindow :
    let f : Frame := ⟨0x21#8, 7#8, bay41Bytes⟩
    let full := crowded 64 500 idle
    let short := crowded 64 499 idle
    let miss := missing (running prunerOnly)
    11 ≤ bay41Bytes.length ∧ (bay41Bytes ++ List.replicate 77 0#8).length ≤ 88 ∧ idle.takes f = true ∧ miss.takes f = true ∧
    bay41Bytes.length % 11 = 0 ∧ baysOfPayload (bay41Bytes.take 10 ++ [2#8]) = none ∧ baysOfPayload bay41Bytes = some [bay41] ∧
    (([bay41].any fun b => b.clashes (mapped idle).mpu.window) = true) ∧ anyClash [bay41] = false ∧
    (([bay41].any fun b => b.clashes idle.mpu.window) = false) ∧ (([bay41].any fun b => b.clashes full.mpu.window) = false) ∧
    full.mpu.window.length + 1 - 64 = 1 ∧ result (after (.loadBays 7#8 bay41Bytes) full) = some (.loadBays 64 [100]) ∧
    refusal (after (.loadBays 7#8 bay41Bytes) short) = some .full ∧ miss.mode = .pass ∧
    miss.mpu.resolve (miss.cursorPos .reference) = .miss ∧ bay41.covers (miss.cursorPos .reference) = true ∧
    (after (.loadBays 7#8 bay41Bytes) miss).overrun = false ∧
    (after (.loadBays 7#8 bay41Bytes) miss).mpu.reference.res = .bay 41 := by decide +kernel

theorem test_witness_MapClear : (mapped idle).mode = .idle ∧ (mapped idle).mpu.mapLock = false ∧ (locked idle).mpu.mapLock = true ∧
    (running prunerOnly).mode = .pass ∧ lockout.mode = .lockout ∧ State.reset.mode = .startup ∧ parked.mode = .parked ∧
    ([0#8] : List Byte) ≠ [] ∧
    (mapped idle).takes ⟨0x20#8, 7#8, []⟩ = true ∧ (mapped idle).takes ⟨0x20#8, 7#8, [0#8]⟩ = true := by decide

/-- Index 4095 and 4096, a bay that is there and one that is not. -/
theorem test_witness_BayPermitsAndConfirmation : (mapped idle).mode = .idle ∧ toolOfCode (2#8 : Byte).toNat = some .spray ∧
    Permit.ofCode (3#8 : Byte).toNat = some .opened ∧ bigEndian [0x0F#8, 0xFF#8] = 4095 ∧ (mapped idle).mpu.bay 4095 = none ∧
    4095 < bigEndian [0x10#8, 0#8] ∧ (mapped idle).mpu.bay 41 = some bay41 ∧ (locked (mapped idle)).mpu.mapLock = true ∧
    bay41.protect = false ∧ (mapped idle).mpu.mapLock = false ∧ Permit.barred ≠ bay41.permit .spray ∧
    ((mapped idle).mpu.cursor .reference).res ≠ .bay 41 ∧ ((mapped idle).mpu.cursor (.tool .weeder)).res ≠ .bay 41 ∧
    ((mapped idle).mpu.cursor (.tool .pruner)).res ≠ .bay 41 ∧ ((mapped idle).mpu.cursor (.tool .spray)).res ≠ .bay 41 ∧
    (mapped idle).takes ⟨0x23#8, 7#8, [0#8, 41#8, 2#8, 0#8]⟩ = true ∧
    (mapped idle).takes ⟨0x25#8, 7#8, [0#8, 41#8, 2#8]⟩ = true := by decide

theorem test_witness_ProtectionAndTheMapLock : idle.mode = .idle ∧ 4095 < bigEndian [0x10#8, 0#8] ∧ 1 < (2#8 : Byte).toNat ∧
    bigEndian [0#8, 41#8] ≤ 4095 ∧ (1#8 : Byte).toNat ≤ 1 ∧ idle.mpu.bay 41 = none ∧ (mapped idle).mpu.bay 41 = some bay41 ∧
    (locked (mapped idle)).mpu.mapLock = true ∧ (mapped idle).mpu.mapLock = false ∧ (0#8 : Byte).toNat = 0 ∧
    idle.pins.service = false ∧ (key idle).pins.service = true ∧
    (mapped idle).takes ⟨0x24#8, 7#8, [0#8, 41#8, 1#8]⟩ = true ∧
    (mapped idle).takes ⟨0x26#8, 7#8, [1#8]⟩ = true ∧ (key idle).takes ⟨0x27#8, 7#8, []⟩ = true := by decide

def passBytes (tools : Byte) : List Byte := [0#8, 7#8, 0#8, 9#8, 0#8, 0x0F#8, 0xFF#8, 0xFF#8, tools, 3#8]

/-- Product 5, rate 700, spacing 1000, six sections. -/
def sprayBytes : List Byte := [0#8, 5#8, 2#8, 0xBC#8, 3#8, 0xE8#8, 63#8]

def withSlot (s : State) : State := { s with lgs := { s.lgs with regStates := [.programmed] } }

/-- The highest start and code 3; tools 0 and 8, code 4, start 1048576; each of PASS_OPEN's tests met and failed. -/
theorem test_witness_PassOpening : bigEndian [0#8, 0x0F#8, 0xFF#8, 0xFF#8] ≤ 1048575 ∧ 1048575 < bigEndian [0#8, 0x10#8, 0#8, 0#8] ∧
    7 < (8#8 : Byte).toNat ∧ 3 < (4#8 : Byte).toNat ∧ 1000 ≤ bigEndian [3#8, 0xE8#8] ∧ bigEndian [0x0F#8, 0xA0#8] ≤ 4000 ∧
    passLengthOk (passBytes 1#8) = true ∧ (passOfPayload (passBytes 1#8)).isSome = true ∧ passOfPayload (passBytes 0#8) = none ∧
    passLengthOk (passBytes 4#8 ++ sprayBytes) = true ∧ (passOfPayload (passBytes 4#8 ++ sprayBytes)).isSome = true ∧
    (op (some (.profile [] 0 false)) idle).lgs.profilePending = true ∧ idle.lgs.profilePending = false ∧
    ({ idle with noProfile := true } : State).noProfile = true ∧ (band .tripped idle).stu.band.stops = true ∧
    idle.spg.tank = none ∧ (spraying idle).spg.tank ≠ none ∧ idle.lgs.currentSlot = none ∧ idle.prs.program = none ∧
    idle.toolTests weederOnly = none ∧ (withSlot (spraying idle)).toolTests sprayOnly = none ∧ idle.mpu.window = [] ∧
    idle.ttr.trunks = [] ∧ idle.wsq.arm = some .retracted ∧ idle.stu.weederAdm = none ∧
    idle.takes ⟨0x30#8, 7#8, passBytes 1#8⟩ = true := by decide +kernel

theorem test_witness_PassHold : (running prunerOnly).mode = .pass ∧
    (running prunerOnly).psc.pass = some (passRec prunerOnly 0 none) ∧ (passRec prunerOnly 0 none).suspension = none ∧
    (passRec prunerOnly 0 (some .trip)).suspension ≠ none ∧ (running prunerOnly).stu.band.stops = false ∧
    (band .tripped (running prunerOnly)).stu.band.stops = true ∧
    (running prunerOnly).takes ⟨0x31#8, 7#8, []⟩ = true := by decide

/-- The reference cursor in a bay barred to the weeder. -/
def barred : State :=
  let s := suspended weederOnly
  { s with mpu := { s.mpu with window := [{ bay41 with weeder := .barred }], reference := ⟨some 33020, .bay 41, false, false⟩ } }

theorem test_witness_PassResume :
    let s := suspended prunerOnly
    let b := band .latched s
    (running prunerOnly).mode = .pass ∧ (running prunerOnly).psc.pass = some (passRec prunerOnly 0 none) ∧
    (passRec prunerOnly 0 none).suspension = none ∧ b.mode = .pass ∧ b.psc.pass = some (passRec prunerOnly 0 (some .host)) ∧
    b.stu.band.stops = true ∧ barred.mode = .pass ∧ barred.psc.pass = some (passRec weederOnly 0 (some .host)) ∧
    barred.stu.band.stops = false ∧ barred.barredAhead = true ∧ s.mode = .pass ∧
    s.psc.pass = some (passRec prunerOnly 0 (some .host)) ∧ s.stu.band.stops = false ∧ s.barredAhead = false ∧
    prunerOnly.weeder = false ∧ prunerOnly.spray = false ∧ s.ttr.trunks = [] ∧ s.prs.run = none ∧ s.stu.weederAdm = none ∧
    s.wsq.arm = some .retracted ∧ s.wsq.simArm = .retracted ∧
    s.takes ⟨0x32#8, 7#8, []⟩ = true ∧ (after (.passResume 7#8 []) { s with wsq := { s.wsq with holdQueue := true } }).wsq.holdQueue = false := by decide +kernel

theorem test_witness_PassClosing : (running prunerOnly).mode = .pass ∧
    (running prunerOnly).psc.pass = some (passRec prunerOnly 0 none) ∧
    (after (.passClose 1#8 []) (running prunerOnly)).overrun = false ∧
    (running prunerOnly).takes ⟨0x33#8, 7#8, []⟩ = true := by decide +kernel

theorem test_witness_ToolSetting : (running prunerOnly).mode = .pass ∧ (weederOnly.spray = true → prunerOnly.spray = true) ∧
    (0#8 : Byte).toNat = 0 ∧ 7 < (8#8 : Byte).toNat ∧ ((8#8 : Byte).getLsbD 2 = true → prunerOnly.spray = true) ∧
    toolSetOfByte 1#8 = some weederOnly ∧ toolSetOfByte 2#8 = some prunerOnly ∧ weederOnly ≠ ToolSet.empty ∧
    weederOnly ≠ prunerOnly ∧ (running weederOnly).prs.program = none ∧ weederOnly.pruner = false ∧
    (after (.toolSet 1#8 [1#8]) (running sprayOnly)).overrun = false ∧
    (running prunerOnly).takes ⟨0x34#8, 7#8, [1#8]⟩ = true ∧ toolSetOfByte 4#8 = some sprayOnly ∧ prunerOnly.spray = false ∧
    (running prunerOnly).takes ⟨0x34#8, 7#8, 4#8 :: sprayBytes⟩ = true ∧ sprayBytes.length = 7 ∧
    sprayFieldsOf sprayBytes = some (⟨5, 700, 1000, Six.all true⟩, false) ∧
    sprayFieldsOf [0#8, 5#8, 2#8, 0xBC#8, 3#8, 0xE7#8, 63#8] = none ∧ (running prunerOnly).spg.tank = none ∧
    (spraying (running prunerOnly)).spg.tank ≠ none ∧ (running prunerOnly).lgs.currentSlot = none ∧
    (withSlot (running prunerOnly)).lgs.currentSlot ≠ none ∧ (running weederOnly).prs.program = none ∧
    (after (.toolSet 7#8 (4#8 :: sprayBytes)) (withSlot (spraying (running prunerOnly)))).tools = sprayOnly ∧
    (after (.toolSet 7#8 (4#8 :: sprayBytes)) (withSlot (spraying (running prunerOnly)))).overrun = false := by decide +kernel

theorem test_witness_ParkAndWake : idle.mode = .idle ∧ (arm .stalled idle).wsq.arm ≠ some .retracted ∧
    idle.wsq.arm = some .retracted ∧ idle.prs.head.state ≠ .moving ∧ idle.lgs.profilePending = false ∧ parked.mode = .parked ∧
    idle.takes ⟨0x03#8, 7#8, []⟩ = true ∧ parked.takes ⟨0x04#8, 7#8, []⟩ = true := by
  decide

def simState (a : ArmState) : State :=
  { inPass (passRec weederOnly 3 (some .host)) idle with wsq := { idle.wsq with simArm := a, simDue := some 200 } }

theorem test_witness_ArmMoves :
    let out := weederAt (itemExtended Config.defaults) (arm .extending idle)
    let back := weederAt (itemExtended Config.defaults) (arm .retracting idle)
    let home := weederAt (itemRetracted Config.defaults) (arm .stalled idle)
    idle.armTakes = true ∧ parked.armTakes = false ∧ idle.wsq.arm ≠ some .extending ∧ idle.wsq.arm ≠ some .retracting ∧
    out.powered = true ∧ out.armTakes = true ∧ out.wsq.arm = some .extending ∧
    out.stu.load.weeder = itemExtended out.profile ∧ home.powered = true ∧ home.mode = .idle ∧ home.wsq.arm = some .stalled ∧
    home.stu.weederAdm = none ∧ home.stu.load.weeder = itemRetracted home.profile ∧ back.powered = true ∧
    back.wsq.deadline = some 1200 ∧ back.armTakes = true ∧ back.wsq.arm = some .retracting ∧ back.pins.armRet = false ∧
    back.mode = .idle ∧ back.stu.weederAdm = none ∧ back.stu.load.weeder = itemExtended back.profile ∧
    (back.cdu.flags.get .armTimeout).isSet = false ∧ (simState .extending).powered = true ∧
    (simState .extending).wsq.simDue = some 200 ∧ (simState .extending).simMotion = true ∧
    (simState .extending).wsq.simArm = .extending ∧ (simState .retracting).wsq.simDue = some 200 ∧
    (simState .retracting).simMotion = true ∧ (simState .retracting).wsq.simArm = .retracting ∧
    (simState .retracting).running = false ∧ (simState .retracting).stu.weederAdm = none ∧
    (arm .retracting (running prunerOnly)).armTakes = true ∧ (running prunerOnly).running = true ∧
    (running prunerOnly).selected .weeder = false ∧ (running weederOnly).selected .weeder = true ∧
    (running weederOnly).permits .weeder = false ∧ (running weederOnly).permission .weeder ≠ some .awaitConfirm ∧
    (arm .retracting (running weederOnly)).stu.load.weeder ≠ itemRetracted Config.defaults ∧
    (after (.armRet true) (arm .retracting (running weederOnly))).stu.load.weeder = itemRetracted Config.defaults := by decide +kernel

def moving (p : Pair) (s : State) : State := { s with prs := { s.prs with head := ⟨.moving, p, ⟨900, 60⟩, false, some 9⟩ } }

def simHeadMoving : State :=
  { inPass (passRec prunerOnly 3 (some .host)) idle with
    prs := { idle.prs with simHead := ⟨.moving, ⟨5, 6⟩, ⟨5, 6⟩, false, some 200⟩ } }

theorem test_witness_HeadMoves :
    let up := headAt (itemHead Config.defaults ⟨5, 6⟩) (moving ⟨5, 6⟩ idle)
    let rest := headAt (itemHead Config.defaults ((⟨900, 60⟩ : Pair).max Pair.rest)) (moving Pair.rest idle)
    idle.headTakes = true ∧ lockout.headTakes = false ∧ idle.prs.head.state = .atTarget ∧ up.powered = true ∧
    up.pins.headInpos = false ∧ up.headTakes = true ∧ up.prs.head.state ≠ .atTarget ∧ up.prs.run = none ∧ up.running = false ∧
    up.stu.prunerAdm = none ∧ up.stu.load.head = itemHead up.profile up.prs.head.issued ∧ up.armTakes = true ∧
    (restingWhileDeferred.prs.run.isSome = true ∧ restingWhileDeferred.headNow.state ≠ .atTarget) ∧
    (atStepTarget.prs.run = some { run with phase := .move, timer := none } ∧ atStepTarget.headNow.state = .atTarget ∧
      (atStepTarget.prs.step { run with phase := .move, timer := none }).map (fun st => st.target) =
        some atStepTarget.headNow.issued) ∧
    up.prs.head.state = .moving ∧ up.prs.head.deadline = some 9 ∧ up.prs.head.issued ≠ Pair.rest ∧
    (after .headDeadlineExpiry up).overrun = false ∧ rest.powered = true ∧ rest.armTakes = true ∧
    rest.prs.head.state = .moving ∧ rest.prs.head.deadline = some 9 ∧ rest.prs.head.issued = Pair.rest ∧
    rest.prs.run = none ∧ rest.running = false ∧ rest.stu.prunerAdm = none ∧
    rest.stu.load.head = itemHead rest.profile (rest.prs.head.confirmed.max Pair.rest) ∧
    (rest.cdu.flags.get .headTimeout).isSet = false ∧ simHeadMoving.powered = true ∧ simHeadMoving.simMotion = true ∧
    simHeadMoving.prs.simHead.deadline = some 200 ∧ simHeadMoving.prs.simHead.state = .moving ∧
    simHeadMoving.prs.run = none ∧ simHeadMoving.running = false := by decide +kernel

/-- A DELAY with the head above the step's targets, so that nothing has to be admitted, and the load at its pair. -/
def delaying : State :=
  let s := withRun { run with phase := .delay } (running prunerOnly)
  headAt (itemHead Config.defaults ⟨900, 60⟩)
    { s with prs := { s.prs with head := ⟨.atTarget, ⟨900, 60⟩, ⟨900, 60⟩, true, none⟩ } }

/-- A DELAY, a DWELL with a step behind it, the last DWELL, a HALTING one, a BLOCKING mark, and a DEFERRED step; what each
leads to. -/
theorem test_witness_RunTimers :
    let w := fun (r : Run) => withRun r (running prunerOnly)
    let last := { run with step := 1 }
    let halting := { run with halting := true }
    let blocking := { run with blocking := true }
    let deferred := { run with deferred := true, stepWait := some 9 }
    (w run).prs.run = some run ∧ run.timer = some 20 ∧ run.phase = .dwell ∧ run.blocking = false ∧ run.halting = false ∧
    (w run).prs.program = some program ∧ program.steps[run.step + 1]? = some ⟨⟨0, 0⟩, Cutters.off, 3, 2, true⟩ ∧
    (((w run).ttr.find run.trunk).any fun x => x.prunerClaim) = true ∧
    ((w run).ttr.trunks.map fun x => x.number).Nodup ∧ program.steps.length ≤ last.step + 1 ∧
    run.step + 1 < program.steps.length ∧ (after .phaseTimerExpiry (w last)).overrun = false ∧
    (after .phaseTimerExpiry (w last)).prs.counts.pruned = 1 ∧ (after .phaseTimerExpiry (w halting)).overrun = false ∧
    (after .phaseTimerExpiry (w halting)).prs.counts.skipped = 1 ∧ (after .phaseTimerExpiry (w blocking)).overrun = false ∧
    (after .phaseTimerExpiry (w blocking)).prs.counts.blocked = 1 ∧ deferred.stepWait = some 9 ∧
    (after .stepWaitExpiry (w deferred)).overrun = false ∧ (after .stepWaitExpiry (w deferred)).prs.counts.abandoned = 1 ∧
    delaying.prs.step { run with phase := .delay } = some ⟨⟨100, 50⟩, ⟨true, false, false, false⟩, 1, 2, false⟩ ∧
    delaying.armTakes = true ∧ 100 ≤ delaying.prs.head.confirmed.height ∧ 50 ≤ delaying.prs.head.confirmed.reach ∧
    delaying.stu.prunerAdm = none ∧ delaying.prs.head.state = .atTarget ∧ (⟨100, 50⟩ : Pair) ≠ delaying.prs.head.confirmed ∧
    delaying.stu.load.head = itemHead delaying.profile (delaying.prs.head.confirmed.max ⟨100, 50⟩) ∧
    (after .phaseTimerExpiry delaying).out.headTxd = [⟨100, 50⟩] := by decide +kernel

theorem test_witness_WeederRecovery :
    let s : State := { idle with wsq := { idle.wsq with stall := true } }
    let r := running weederOnly
    let t : State := { r with wsq := { r.wsq with stall := true }, ttr := { r.ttr with spacing := some 9 } }
    (arm .stalled idle).mode = .idle ∧ (arm .stalled idle).wsq.arm ≠ some .retracted ∧ idle.mode = .idle ∧
    idle.wsq.arm = some .retracted ∧ idle.wsq.stall = false ∧ s.mode = .idle ∧ s.wsq.arm = some .retracted ∧
    s.wsq.stall = true ∧ s.stu.weederAdm = none ∧ t.mode = .pass ∧ t.wsq.arm = some .retracted ∧ t.wsq.stall = true ∧
    t.wsq.fault = false ∧ t.ttr.spacing = some 9 ∧
    idle.takes ⟨0x40#8, 7#8, []⟩ = true ∧ s.takes ⟨0x40#8, 7#8, []⟩ = true ∧ t.takes ⟨0x40#8, 7#8, []⟩ = true := by decide

def stepBytes : List Byte := [0#8, 100#8, 0#8, 50#8, 0x81#8, 1#8, 2#8]

theorem test_witness_PruneCommands : programLengthOk (1#8 :: stepBytes) = true ∧
    programOfPayload (2#8 :: stepBytes) = none ∧ (programOfPayload (1#8 :: stepBytes)).isSome = true ∧
    (withRun run (running prunerOnly)).prs.run ≠ none ∧ idle.prs.run = none ∧ idle.prs.program = none ∧
    (withRun run (running prunerOnly)).prs.program ≠ none ∧ (withRun run (running prunerOnly)).headNow.state ≠ .unplaced ∧
    ({ idle with prs := { Prs.boot with program := some program } } : State).prs.head.state = .unplaced ∧
    idle.ttr.trunks = [] ∧ idle.headNow.state = .atTarget ∧ idle.headNow.confirmed = Pair.rest ∧
    ({ run with halting := true } : Run).halting = true ∧ run.halting = false ∧ run.deferred = false ∧
    (running prunerOnly).running = true ∧ ({ run with deferred := true } : Run).deferred = true ∧
    (after (.pruneHalt 1#8 []) (withRun { run with deferred := true } (running prunerOnly))).overrun = false ∧
    idle.takes ⟨0x48#8, 7#8, 1#8 :: stepBytes⟩ = true ∧
    (withRun run (running prunerOnly)).takes ⟨0x49#8, 7#8, []⟩ = true ∧
    (withRun run (running prunerOnly)).takes ⟨0x4A#8, 7#8, []⟩ = true := by decide +kernel

/-- A section open over an open record, the tank half a kilogram above a whole one, 100 in the accumulator. -/
def flowing : State :=
  let s := spraying (running sprayOnly)
  { s with spg := { s.spg with sections := Six.all .opened, tank := some ⟨120500, 1000⟩, acc := 100 }
           stu := { s.stu with load := { s.stu.load with tank := itemTank Config.defaults (some ⟨120499, 1000⟩) } } }

/-- The same without the reservation, three millilitres pending. -/
def waitingVolume : State := { flowing with spg := { flowing.spg with reserved := false, acc := 1850 } }

/-- The density at 799, 800, 1500 and 1501; a closed tank item that already holds 5 mL at 1000 g/L. -/
theorem test_witness_FlowFillAndTakeOff : idle.spg.openRec = none ∧ (running sprayOnly).running = true ∧
    bigEndian [3#8, 0x1F#8] < 800 ∧ 800 ≤ bigEndian [3#8, 0x20#8] ∧ bigEndian [5#8, 0xDC#8] ≤ 1500 ∧ 1500 < bigEndian [5#8, 0xDD#8] ∧
    idle.running = false ∧ idle.mode = .idle ∧
    ({ idle with stu := { idle.stu with load := { idle.stu.load with tank := itemTank Config.defaults (some ⟨5, 1000⟩) } } } : State).stu.load.tank =
      itemTank Config.defaults (some ⟨5, 1000⟩) ∧ 0 < Spg.flowUnit Config.defaults ∧
    idle.spg.reserved = false ∧ (after (.fill 1#8 [0#8, 0#8, 0#8, 5#8, 3#8, 0xE8#8]) idle).overrun = false ∧
    idle.takes ⟨0x18#8, 7#8, [0#8, 0#8, 0#8, 5#8, 3#8, 0xE8#8]⟩ = true ∧ idle.powered = true ∧
    flowing.spg.openRec = some openRecord ∧ flowing.spg.reserved = true ∧ flowing.lgs.halted = false ∧
    flowing.openSections.any = true ∧ flowing.spg.tank = some ⟨120500, 1000⟩ ∧ Spg.flowUnit flowing.profile = 600 ∧
    flowing.stu.load.tank = itemTank flowing.profile (some ⟨120499, 1000⟩) ∧ flowing.spg.acc + 1000 = 1100 ∧
    waitingVolume.spg.openRec = some openRecord ∧ waitingVolume.spg.tank = some ⟨120500, 1000⟩ ∧
    waitingVolume.spg.reserved = false ∧ openRecord.roomWait = false ∧ waitingVolume.lgs.halted = false ∧
    waitingVolume.grantTest = true ∧ waitingVolume.spg.acc / Spg.flowUnit waitingVolume.profile = 3 ∧
    openRecord.volClosed + 3 ≤ 4294967295 ∧ waitingVolume.spg.overrunVolume = 0 ∧
    (handle .seek waitingVolume).1.spg.acc = 50 ∧
    (after .flowPulse flowing).spg.acc = 500 ∧ (handle .takeOff { flowing with spg := { flowing.spg with acc := 600 } }).1.spg.acc = 0 := by decide +kernel

theorem test_witness_RateOfARecord : Config.defaults.rateTol < 100 ∧ 5000 * 2200 ≠ 0 ∧
    (running sprayOnly).psc.pass = some (passRec sprayOnly 0 none) ∧
    (passRec sprayOnly 0 none).spray = some ⟨5, 700, 2200, Six.all true⟩ ∧ (spraying idle).spg.openRec = some openRecord ∧
    (spraying idle).spg.reserved = true ∧
    ((running sprayOnly).closed { openRecord with openLength := 5000 }).rate = some 0 := by decide +kernel

def halted (s : State) : State := { s with lgs := { s.lgs with halted := true } }

def staged (s : State) : State := { s with lgs := { s.lgs with staging := [record 4] } }

/-- A write after the RESET# line that will leave as many slots as LOG_NEAR. -/
def nearly : State :=
  let s := op (some (.record (record 4) 1 false true)) idle
  { s with profile := { s.profile with logNear := 4092 } }

theorem test_witness_ArbiterAndRecordWrites : (op (some (reg3 .image)) idle).lgs.op ≠ none ∧ (halted idle).lgs.op = none ∧
    (waiting [.record, .reg 3 [1#8]] (halted idle)).lgs.waiting = [Request.record] ++ .reg 3 [1#8] :: [] ∧
    (∀ r ∈ [Request.record], r = .record) ∧ (halted idle).roomTest = false ∧
    (waiting [.profile [] 0] (halted idle)).lgs.waiting = [] ++ Request.profile [] 0 :: [] ∧
    (waiting [.record] (staged idle)).lgs.waiting = .record :: [] ∧ (staged idle).lgs.staging = record 4 :: [] ∧
    (staged idle).roomTest = true ∧ (op (some (.record (record 4) 2 true false)) idle).roomTest = true ∧
    (op (some (.record (record 4) 2 true false)) (halted idle)).roomTest = false ∧
    (op (some (.record (record 4) 1 false false)) idle).lgs.op = some (.record (record 4) 1 false false) ∧
    idle.spg.openRec = none ∧ idle.lgs.waiting = [] ∧ idle.profile.logNear < ({ idle.lgs with newestSeq := 4 } : Lgs).free ∧
    idle.lgs.badSet.length < 32 ∧ 32 ≤ (List.range 32).length ∧ (idle.cdu.flags.get .logRetry).isSet = false ∧
    (op (some (.record (record 4) 1 false true)) idle).lgs.op = some (.record (record 4) 1 false true) ∧
    nearly.lgs.op = some (.record (record 4) 1 false true) ∧ nearly.spg.openRec = none ∧
    ({ nearly.lgs with newestSeq := 4 } : Lgs).free ≤ nearly.profile.logNear ∧
    ((after (.recordWriteAttemptDone true) nearly).cdu.flags.get .logNearFull).isSet = true := by decide +kernel

/-- Slots 7 and 8, offsets 31 and 32, data of 32 and 33 bytes. -/
theorem test_witness_RegistrationPrograms : idle.mode = .idle ∧ 7 < (8#8 : Byte).toNat ∧ (7#8 : Byte).toNat ≤ 7 ∧
    31 < (32#8 : Byte).toNat ∧ (31#8 : Byte).toNat ≤ 31 ∧ (List.replicate 118 0#8 : List Byte).length ≤ 118 ∧
    32 < (List.replicate 33 0#8 : List Byte).length ∧ (List.replicate 32 0#8 : List Byte).length ≤ 32 ∧
    idle.pins.service = false ∧ (op (some (reg3 .image)) (key idle)).pins.service = true ∧
    (op (some (reg3 .image)) (key idle)).lgs.regPending ≠ none ∧ (withSlot (key idle)).pins.service = true ∧
    (withSlot (key idle)).lgs.regPending = none ∧ (withSlot (key idle)).lgs.regStates[0]? ≠ some .blank ∧
    (key idle).pins.service = true ∧ (key idle).lgs.regStates[7]? = some .blank ∧ (key idle).lgs.op = none ∧
    (key idle).lgs.waiting = [] ∧ 0 + (List.replicate 32 0#8 : List Byte).length ≤ 32 ∧
    (op (some (reg3 .beginMark)) idle).lgs.op = some (.reg 3 [1#8] .beginMark false) ∧
    (op (some (reg3 .image)) idle).lgs.op = some (.reg 3 [1#8] .image false) ∧
    (op (some (reg3 .commitMark)) idle).lgs.op = some (.reg 3 [1#8] .commitMark false) ∧
    (key idle).takes ⟨0x63#8, 7#8, 7#8 :: 31#8 :: List.replicate 32 0#8⟩ = true := by decide

theorem test_witness_ProfileWrites : Config.defaults.image.length = 110 ∧ Profile.ofImage (List.replicate 110 0#8) = none ∧
    Profile.ofImage Config.defaults.image = some Config.defaults ∧
    (op (some (.profile [] 0 false)) idle).lgs.profilePending = true ∧ idle.lgs.op = none ∧ idle.lgs.waiting = [] ∧
    (op (some (.profile [] 0 false)) idle).lgs.op = some (.profile [] 0 false) ∧ idle.mode ≠ .startup ∧
    State.reset.mode = .startup ∧
    idle.takes ⟨0x08#8, 7#8, Config.defaults.image⟩ = true := by decide +kernel

/-- With the mark at 1 and the newest record 3: numbers 0, 1, 2, 3 and 4. -/
theorem test_witness_LogReleases : (logged idle).mode = .idle ∧ (mode .lockout (logged idle)).mode = .lockout ∧
    (logged idle).lgs.newestSeq < bigEndian [0#8, 0#8, 0#8, 4#8] ∧ bigEndian [0#8, 0#8, 0#8, 0#8] < (logged idle).lgs.released ∧
    bigEndian [0#8, 0#8, 0#8, 1#8] = (logged idle).lgs.released ∧ (logged idle).lgs.released < bigEndian [0#8, 0#8, 0#8, 2#8] ∧
    bigEndian [0#8, 0#8, 0#8, 3#8] ≤ (logged idle).lgs.newestSeq ∧ (logged idle).store.markA = some 1 ∧
    (logged idle).store.markB = some 0 ∧ (logged idle).spg.openRec = none ∧ (logged idle).lgs.op = none ∧
    (logged idle).lgs.waiting = [] ∧
    (logged idle).takes ⟨0x62#8, 7#8, [0#8, 0#8, 0#8, 2#8]⟩ = true := by decide

theorem test_witness_FramesAreReceivedAsSent : (List.replicate 120 0x5A#8 : List Byte).length ≤ 120 ∧
    (List.replicate 120 0x5A#8 : List Byte).length + 6 ≤ 126 := by decide

theorem test_witness_ProfileImageRoundTrip : Config.defaults.valid = true := by decide +kernel

def frameIn (l : List Byte) : State := { idle with mlk := { idle.mlk with rx := .inFrame l } }

/-- A buffer of three and of four frames, a frame held first and held second, LEN 1, 2, 122 and 123, a STATUS frame with its
last byte right and wrong, a frame begun inside a broken one, the kind of no command. -/
theorem test_witness_FramesBytesAndTheirTaking :
    let bytes := frameBytes 1#8 7#8 []
    let held (n : Nat) : State := holding (List.replicate n ⟨1#8, 0#8, []⟩) idle
    let f : Frame := ⟨0x03#8, 7#8, []⟩
    (List.replicate 120 0#8 : List Byte).length ≤ 120 ∧ (held 3).mlk.rxBuf.length < 4 ∧ 4 ≤ (held 4).mlk.rxBuf.length ∧
    idle.mlk.rx = .hunting ∧ (frameIn []).mlk.rx = .inFrame [] ∧ (1#8 : Byte).toNat < 2 ∧ 2 ≤ (2#8 : Byte).toNat ∧
    (122#8 : Byte).toNat ≤ 122 ∧ 122 < (123#8 : Byte).toNat ∧ idle.mlk.rxBuf = [] ∧
    bytes.take 4 = [0x5A#8, 2#8, 1#8, 7#8] ∧ 0x5A#8 :: 2#8 :: (bytes.drop 2).dropLast ++ [bytes.getLastD 0#8] = bytes ∧
    (after (.byteReceived (bytes.getLastD 0#8)) (frameIn (bytes.drop 1).dropLast)).mlk.rxBuf = [⟨1#8, 7#8, []⟩] ∧
    ((after (.byteReceived (bytes.getLastD 0#8 + 1#8)) (frameIn (bytes.drop 1).dropLast)).cdu.flags.get .linkError).detail =
      some (.linkError .crc 1) ∧ 0x5A#8 ∉ (bytes.drop 1).dropLast ++ [bytes.getLastD 0#8 + 1#8] ∧
    (frameIn [9#8, 1#8]).mlk.rx = .inFrame [9#8, 1#8] ∧ (frameIn ([9#8, 1#8] ++ [0x5A#8])).mlk.rx = .inFrame ([9#8, 1#8] ++ [0x5A#8]) ∧
    0x5A#8 ∉ [9#8, 1#8] ++ [2#8] ∧ (after (.frameDiscard .framing 2#8) (frameIn [9#8, 0x5A#8])).mlk.rx = .hunting ∧
    ((after (.frameDiscard .framing 2#8) (frameIn [9#8, 0x5A#8])).cdu.flags.get .linkError).detail = some (.linkError .framing 2) ∧
    idle.takes f = true ∧ (holding [f] idle).takes f = true ∧ (holding [⟨1#8, 0#8, []⟩, f] idle).takes f = false ∧
    (after (.park 7#8 []) (held 3)).mode = .idle ∧ (after (.park 7#8 []) (held 3)).mlk.rxBuf.length = 4 ∧
    ((after (.park 7#8 []) (held 4)).cdu.flags.get .linkError).detail = some (.linkError .full 1) ∧
    frameOf (.park 7#8 []) = some f ∧ commandKinds.contains (0x0A#8 : Byte).toNat = false ∧
    idle.takes ⟨0x0A#8, 7#8, []⟩ = true ∧
    ({ idle with mlk := { idle.mlk with tx := [.refused 1#8 2#8 .busy] } } : State).mlk.tx = .refused 1#8 2#8 .busy :: [] := by
  decide +kernel

theorem test_witness_SilenceAndTime : idle.mlk.silenceFrom = some 0 ∧ idle.mlk.expired = false ∧
    ({ idle with mlk := { idle.mlk with expired := true } } : State).mlk.expired = true ∧ parked.mode = .parked ∧
    lockout.mode = .lockout ∧ idle.mode = .idle ∧ (idle.cdu.flags.get .hostSilence).isSet = false ∧
    (running prunerOnly).mode = .pass ∧ idle.powered = true ∧
    idle.takes ⟨0x05#8, 7#8, [0#8, 0#8, 1#8, 2#8]⟩ = true := by decide

theorem test_witness_StatusProfileStabilityAndTankRead : idle.powered = true ∧ idle.mode = .idle ∧ (running sprayOnly).mode = .pass ∧
    idle.stu.published = some level ∧ State.reset.stu.published = none ∧
    idle.takes ⟨0x01#8, 7#8, []⟩ = true ∧ idle.takes ⟨0x09#8, 7#8, []⟩ = true ∧
    idle.takes ⟨0x10#8, 7#8, []⟩ = true ∧ idle.takes ⟨0x19#8, 7#8, []⟩ = true := by decide

theorem test_witness_MapPassTrunkAndToolReads : idle.mode = .idle ∧ 63 < (64#8 : Byte).toNat ∧ (63#8 : Byte).toNat ≤ 63 ∧
    31 < (32#8 : Byte).toNat ∧ (31#8 : Byte).toNat ≤ 31 ∧ idle.rehearsal ≠ 3 ∧
    (withRun run (running prunerOnly)).ttr.candidate = some trunk ∧ idle.ttr.candidate = none ∧
    idle.takes ⟨0x22#8, 7#8, [63#8]⟩ = true ∧ idle.takes ⟨0x50#8, 7#8, [31#8]⟩ = true ∧ idle.takes ⟨0x35#8, 7#8, []⟩ = true ∧
    idle.takes ⟨0x41#8, 7#8, []⟩ = true ∧ idle.takes ⟨0x4B#8, 7#8, []⟩ = true := by decide

theorem test_witness_LogAndSlotRead : (logged idle).mode = .idle ∧ (mode .lockout (logged idle)).mode = .lockout ∧
    (running sprayOnly).mode = .pass ∧ 7 < (8#8 : Byte).toNat ∧ (8#8 : Byte).toNat ≠ 255 ∧ (255#8 : Byte).toNat = 255 ∧
    (7#8 : Byte).toNat ≤ 7 ∧ idle.lgs.op = none ∧ idle.store.regs[7]? = some RegCell.blank ∧
    (1, SlotContent.record (record 2)) ∈ (logged idle).store.ring ∧ (2, SlotContent.record (record 3)) ∈ (logged idle).store.ring ∧
    (logged idle).takes ⟨0x60#8, 7#8, []⟩ = true ∧ (logged idle).takes ⟨0x61#8, 7#8, [0#8, 0#8, 0#8, 1#8]⟩ = true ∧
    idle.takes ⟨0x64#8, 7#8, [7#8]⟩ = true := by
  decide

theorem test_witness_RefusalsByModeAndLength : frameOf (.passHold 7#8 []) = some ⟨0x31#8, 7#8, []⟩ ∧ State.reset.mode = .startup ∧
    (0x31#8 : Byte) ≠ 0x01#8 ∧ parked.mode = .parked ∧ (0x31#8 : Byte) ∉ parkedKinds ∧ lockout.mode = .lockout ∧
    (0x31#8 : Byte) ∉ lockoutKinds ∧ (running prunerOnly).mode = .pass ∧ frameOf (.park 7#8 []) = some ⟨0x03#8, 7#8, []⟩ ∧
    idle.mode = .idle ∧ frameOf (.logStatus 7#8 [0#8]) = some ⟨0x60#8, 7#8, [0#8]⟩ ∧ ([0#8] : List Byte) ≠ [] ∧
    State.reset.takes ⟨0x31#8, 7#8, []⟩ = true ∧ idle.takes ⟨0x60#8, 7#8, [0#8]⟩ = true ∧
    takenIn 0x01#8 State.reset = true ∧ takenIn 0x60#8 lockout = true ∧ takenIn 0x04#8 parked = true ∧
    takenIn 0x18#8 (running prunerOnly) = false ∧ takenIn 0x34#8 (running prunerOnly) = true ∧
    (⟨0x60#8, 7#8, [0#8]⟩ : Frame).fits idle = false ∧ (⟨0x34#8, 7#8, [4#8]⟩ : Frame).fits (running prunerOnly) = false ∧
    (⟨0x34#8, 7#8, [4#8]⟩ : Frame).fits (running sprayOnly) = true ∧
    (⟨0x30#8, 7#8, List.replicate 17 0#8⟩ : Frame).fits idle = false ∧
    (⟨0x30#8, 7#8, List.replicate 10 0#8⟩ : Frame).fits idle = true := by decide +kernel

def queued : State := { idle with pending := [.flowPulse] }

theorem test_witness_StoreKeepsItsForm : step queued = .next (after .flowPulse idle) ∧ LogRing.wf queued.store.ring = true ∧
    queued.store.regs.length = 8 := by
  refine ⟨rfl, ?_⟩
  decide +kernel

theorem test_witness_LinkKeepsItsBounds : step queued = .next (after .flowPulse idle) ∧ queued.mlk.rxBuf.length ≤ 4 ∧
    (queued.mlk.tx.filter TxItem.isNotice).length ≤ 16 ∧ (queued.mlk.tx.filter fun i => !i.isNotice).length ≤ 1 ∧
    queued.mlk.lostNotices ≤ 65535 := by
  refine ⟨rfl, ?_⟩
  decide +kernel

theorem test_witness_BandKeepsToItsRecord : step queued = .next (after .flowPulse idle) ∧
    queued.stu.trip.isSome = queued.stu.band.stops ∧ queued.stu.recovery.isSome = false ∧ queued.stu.band.stops = false := by
  refine ⟨rfl, ?_⟩
  decide +kernel

theorem test_witness_ListsKeepTheirBounds : step queued = .next (after .flowPulse idle) ∧ queued.mpu.window.length ≤ 64 ∧
    queued.ttr.trunks.length ≤ 32 ∧ queued.wsq.queue.length ≤ 16 ∧ queued.odu.history.length = 21 ∧ queued.odu.rpc ≤ 1048575 ∧
    queued.odu.offset.natAbs ≤ 1048575 ∧ queued.mpu.window = [] := by
  refine ⟨rfl, ?_⟩
  decide +kernel

end Sys2Proof.Tests
end

/-! PROOFS. What each hand-off leaves as it is, block by block, and where the hand-offs that a proof has to look out for come
from. -/

namespace Sys2Proof.Machine

/-! ### Which hand-offs change a block -/

/-- The hand-offs that the Stability Unit takes and that can change it. -/
def Work.changesStu : Work → Bool
  | .compute _ | .takeResult | .ceiling | .evalOne _ | .trip _ | .recover | .reload _ | .tankReport _ | .ask _ _
  | .withdraw _ | .moveStarted _ | .sensorFault | .profileTaken _ _ => true
  | _ => false

/-- The hand-offs that can set a flag. -/
def Work.changesFlags : Work → Bool
  | .occur _ _ | .majorFlag _ _ _ => true
  | _ => false

/-- The hand-offs that can change the mode or the pass record. -/
def Work.changesPsc : Work → Bool
  | .enterLockout | .suspend _ | .passEnd _ | .dropSprayFields | .startEnd => true
  | _ => false

/-- The hand-offs that can change the Weeder Sequencer. -/
def Work.changesWsq : Work → Bool
  | .drive | .permission .weeder | .answer .weeder _ | .fire | .fireEnd _ | .immediate | .rebuild | .queueTrunk _ _
  | .queueFull _ | .arm _ | .weederWithheld _ | .weederStop | .weederEnd | .overflow _ | .startEnd => true
  | _ => false

/-- The hand-offs that can change the state of the physical arm or its deadline. -/
def Work.changesArm : Work → Bool
  | .arm _ | .startEnd => true
  | _ => false

/-- The hand-offs that can change the Map Unit. -/
def Work.changesMpu : Work → Bool
  | .moveCursor _ | .enter _ _ | .missTest _ | .actQuery _ | .mapEnd => true
  | _ => false

/-- What a hand-off leaves as it is, from the state before to the state after it. -/
structure Leaves (w : Work) (s t : State) : Prop where
  stu : w.changesStu = false → t.stu = s.stu
  flags : w.changesFlags = false → t.cdu.flags = s.cdu.flags
  psc : w.changesPsc = false → t.psc = s.psc
  wsq : w.changesWsq = false → t.wsq = s.wsq
  arm : w.changesArm = false → t.wsq.arm = s.wsq.arm ∧ t.wsq.deadline = s.wsq.deadline
  mpu : w.changesMpu = false → t.mpu = s.mpu

theorem Leaves.of_spg {w : Work} {s t : State} (h : { t with spg := s.spg } = s) : Leaves w s t := by
  rw [← h]
  constructor <;> exact fun _ => by first | rfl | exact ⟨rfl, rfl⟩

theorem Leaves.of_raise (w : Work) (h : w.changesFlags = true) (s : State) (f : Flag) (d : Detail) : Leaves w s (s.raise f d) := by
  constructor <;> simp [h]

theorem Leaves.of_free {w : Work} {s t : State} (h : t = { s with freeCount := t.freeCount }) : Leaves w s t := by
  rw [h]
  constructor <;> exact fun _ => by first | rfl | exact ⟨rfl, rfl⟩

theorem arrange_eq {α : Type} (n : Nat) (s : State) (l : List α) :
    (State.arrange n s l).2 = { s with freeCount := (State.arrange n s l).2.freeCount } := by
  induction n generalizing s l with
  | zero => rfl
  | succ n ih =>
    match l with
    | [] => rfl
    | [_] => rfl
    | a :: b :: l => exact (ih (s.choose (a :: b :: l).length).2 _).trans rfl

theorem arrange_stu {α : Type} (n : Nat) (s : State) (l : List α) : (State.arrange n s l).2.stu = s.stu := by
  rw [arrange_eq]

theorem raiseCleared_arm (w : Wsq) (l : List Trunk) (f : Trunk → Int) :
    (l.foldl (fun w t => Wsq.raiseCleared w (f t)) w).arm = w.arm ∧
      (l.foldl (fun w t => Wsq.raiseCleared w (f t)) w).deadline = w.deadline := by
  induction l generalizing w with
  | nil => exact ⟨rfl, rfl⟩
  | cons t l ih => exact ih (w.raiseCleared (f t))

theorem raisePastCaptures_arm (s : State) :
    s.raisePastCaptures.arm = s.wsq.arm ∧ s.raisePastCaptures.deadline = s.wsq.deadline := by
  unfold State.raisePastCaptures
  split <;> exact ⟨rfl, rfl⟩

/-- Every hand-off leaves the blocks as they are that it cannot change. -/
theorem handle_leaves (w : Work) (s : State) : Leaves w s (handle w s).1 := by
  cases w
  case occur f d => exact .of_raise _ rfl s f d
  case majorFlag c o m =>
    simp only [handle, cduMajorFlag]
    repeat' split
    all_goals constructor <;> simp [Work.changesFlags]
  case answer r a =>
    cases r <;> cases a <;> simp only [handle, wsqAnswer, prsAnswer]
    all_goals
      repeat' split
      all_goals constructor <;> first | exact fun _ => rfl | exact fun _ => ⟨rfl, rfl⟩ | exact fun h => absurd h Bool.noConfusion
  case permission t =>
    cases t <;> simp only [handle, wsqDrive, prsPermission, spgDecide]
    all_goals
      repeat' split
      all_goals constructor <;> first | exact fun _ => rfl | exact fun _ => ⟨rfl, rfl⟩ | exact fun h => absurd h Bool.noConfusion
  case mapMove => exact .of_free (arrange_eq _ _ _)
  case issue p =>
    simp only [handle, prsIssue]
    repeat' split
    all_goals constructor <;> simp
  case rebuild =>
    constructor <;> first | exact fun _ => rfl | exact fun _ => raiseCleared_arm _ _ _ | exact fun h => absurd h Bool.noConfusion
  case overflow full =>
    simp only [handle, wsqOverflow]
    repeat' split
    all_goals
      constructor <;> first
        | exact fun _ => rfl | exact fun _ => ⟨rfl, rfl⟩ | exact fun _ => raisePastCaptures_arm s
        | exact fun h => absurd h Bool.noConfusion
  case takeOff =>
    simp only [handle, spgTakeOff]
    split
    · next hc => exact .of_spg (charge_spec hc).1
    · exact .of_spg rfl
  case seek =>
    simp only [handle, spgSeek, spgGrant]
    repeat' split
    all_goals first
      | exact .of_spg rfl
      | exact .of_spg (congrArg (fun u : State => { u with spg := s.spg }) (chargePending_spec _ _).1)
  all_goals
    simp only [handle, cduMajor, cduLockout, stuCompute, stuTakeResult, stuCeiling, stuEvalWaiting, stuEvaluate,
      stuTrip, stuBandGiven, stuRecover, stuReload, stuTankReport, stuItem, stuAsk, stuWithdraw, stuMoveStarted, stuSensorFault,
      stuProfile, oduRpcChanged,
      oduReverseTest, ttrClearWeeder, ttrPurge, ttrEnd, ttrDrop, mpuMoveCursor, mpuExit, mpuEnter, mpuMissTest, mpuBarredTest,
      mpuActQuery, mpuEnd, pscSuspend, pscEnd, pscDropFields, wsqDrive, wsqFire, wsqFireEnd, wsqImmediate, wsqLift,
      wsqQueueTrunk, wsqQueueFull, wsqArm, wsqWithheld, wsqTrip, wsqStop, wsqEnd,
      prsRest, prsHeadDone, prsConsider, prsStartRun, prsEnterPhase, prsPhaseEnd, prsEndRun, prsOutcome, prsSkipAll,
      prsHaltDone, prsTrip, prsFault, prsStop, prsResume, prsEnd, prsTrunkLost, spgDecide,
      spgSeekForFlow, spgEntry, spgClose, spgStop, spgRoomReport, lgsStage, lgsArbiter, lgsHalt,
      lgsNearFull, lgsStartReports, mlkStartEndTest, mlkStartEnd, mlkFrameIn, mlkDiscard]
    repeat' split
    all_goals constructor <;> first | exact fun _ => rfl | exact fun _ => ⟨rfl, rfl⟩ | exact fun h => absurd h Bool.noConfusion

/-! ### Where hand-offs come from -/

/-- The hand-off `v` can come from the hand-off `w`: said closely for those that a proof has to look out for (a computation at an
arrival, a cursor's moves, the arm's moves, the weeder's request, the ends of a pass and of STARTUP), true of every other. -/
def Work.comesFrom (v w : Work) : Bool :=
  match v with
  | .compute .arrival | .rpcChanged _ | .profileTaken _ _ | .frameIn _ => false
  | .mapMove => (w matches .rpcChanged _)
  | .moveCursor _ => (w matches .mapMove)
  | .enter _ _ => (w matches .moveCursor _)
  | .arm _ => (w matches .drive | .permission .weeder | .answer .weeder .admitted | .weederEnd | .arm _)
  | .ask .weeder _ => (w matches .drive | .permission .weeder)
  | .passEnd _ => (w matches .enterLockout)
  | .startEnd => (w matches .startEndTest)
  | _ => true

theorem all_map {α β : Type} (p : β → Bool) (f : α → β) (l : List α) (h : ∀ a, p (f a) = true) : (l.map f).all p = true := by
  simp [h]

/-- What a property has to hold of so that it holds of every report of a millilitre (R160 to R163). -/
structure OfReports (p : Work → Bool) : Prop where
  tank : ∀ q, p (.tankReport q) = true
  empty : ∀ b n v, p (.occur .tankEmpty (.tankEmpty b n v)) = true
  decide : p .decide = true
  leak : ∀ b v m, p (.occur .sprayLeak (.sprayLeak b v m)) = true

theorem charge_all {p : Work → Bool} (hp : OfReports p) {o : Bool} {s t : State} {ws : List Work}
    (h : s.charge o = some (t, ws)) : ws.all p = true := by
  unfold State.charge at h
  split at h
  · split at h
    · cases h
      simp only [List.all_append, Bool.and_eq_true]
      refine ⟨⟨⟨?_, ?_⟩, ?_⟩, ?_⟩
      all_goals (repeat' split) <;> simp [hp.tank, hp.empty, hp.decide, hp.leak]
    · cases h
  · cases h

theorem chargePending_all {p : Work → Bool} (hp : OfReports p) (n : Nat) (s : State) :
    (s.chargePending n).2.all p = true := by
  induction n generalizing s with
  | zero => rfl
  | succ n ih =>
    unfold State.chargePending
    split
    · next t ws h => rw [List.all_append, charge_all hp h, ih t]; rfl
    · rfl

theorem comesFrom_reports (w : Work) : OfReports fun v => v.comesFrom w :=
  ⟨fun _ => rfl, fun _ _ _ => rfl, rfl, fun _ _ _ => rfl⟩

theorem handle_comesFrom (w : Work) (s : State) : ((handle w s).2.all fun v => v.comesFrom w) = true := by
  cases w
  case answer r a => cases r <;> cases a <;> simp only [handle, wsqAnswer, prsAnswer] <;> repeat' (first | rfl | split)
  case permission t => cases t <;> simp only [handle, wsqDrive, prsPermission, spgDecide] <;> repeat' (first | rfl | split)
  case occur f d =>
    simp only [handle, cduOccur]
    repeat' (first | rfl | split)
  case major c o => cases c <;> rfl
  case takeOff =>
    simp only [handle, spgTakeOff]
    split
    · next h => rw [List.all_append, charge_all (comesFrom_reports _) h]; rfl
    · rfl
  case seek =>
    simp only [handle, spgSeek, spgGrant]
    repeat' (first | rfl | (rw [List.all_append, chargePending_all (comesFrom_reports _)]; rfl) | split)
  case mapMove => exact all_map _ _ _ fun _ => rfl
  case skipAll => exact all_map _ _ _ fun _ => rfl
  case rebuild =>
    simp only [handle, wsqRebuild, List.all_append, Bool.and_eq_true]
    refine ⟨⟨⟨all_map _ _ _ fun _ => rfl, ?_⟩, ?_⟩, rfl⟩
    · exact List.all_eq_true.2 fun v hv => by
        obtain ⟨st, -, hv⟩ := List.mem_flatMap.1 hv
        obtain ⟨n, -, rfl⟩ := List.mem_map.1 hv
        rfl
    · split <;> rfl
  case moveCursor c =>
    rcases c with _ | t <;> simp only [handle, mpuMoveCursor, mpuExit] <;> (try cases t)
    all_goals repeat' (first | rfl | split)
  case enter c r => rcases c with _ | t <;> (try cases t) <;> rfl
  case evalOne r => cases r <;> simp only [handle, stuEvaluate] <;> repeat' (first | rfl | split)
  case ask r p => cases r <;> simp only [handle, stuAsk, stuEvaluate] <;> repeat' (first | rfl | split)
  all_goals
    simp only [handle, cduMajorFlag, cduLockout, stuCompute, Published.clipReport, stuTakeResult, stuRecover, stuProfile,
      stuCeiling, stuEvalWaiting, mlkFrameIn,
      stuTrip, stuBandGiven, stuReload, stuTankReport, stuItem, stuWithdraw, stuMoveStarted, stuSensorFault, oduRpcChanged,
      oduReverseTest, ttrClearWeeder, ttrPurge, ttrEnd, ttrDrop, mpuMissTest, mpuBarredTest, mpuActQuery,
      mpuEnd, pscSuspend, pscEnd, pscDropFields, wsqDrive, wsqFire, wsqFireEnd, wsqImmediate, wsqLift,
      wsqQueueTrunk, wsqQueueFull, wsqArm, wsqWithheld, wsqTrip, wsqStop, wsqEnd, wsqOverflow, prsIssue,
      prsRest, prsHeadDone, prsConsider, prsStartRun, prsEnterPhase, prsPhaseEnd, prsEndRun, prsOutcome,
      prsHaltDone, prsTrip, prsFault, prsStop, prsResume, prsEnd, prsTrunkLost, spgDecide,
      spgSeekForFlow, spgEntry, spgClose, spgStop, spgRoomReport, lgsStage, lgsArbiter, lgsHalt,
      lgsNearFull, lgsStartReports, mlkStartEndTest, mlkStartEnd, mlkDiscard]
    repeat' (first | rfl | split)

end Sys2Proof.Machine

/-! PROOFS. The band, its trip record, its recovery timer and the ceiling at every hand-off (R22, R28, R33). -/

namespace Sys2Proof.Machine

variable {s t : State}

/-! ### The band's record under one change of the Stability Unit -/

theorem BandForm.of_stu (b : BandForm s) (h : t.stu = s.stu) : BandForm t := by
  obtain ⟨trip, recovery, ceiling⟩ := b
  constructor <;> rw [h] <;> assumption

/-- Band and trip record as they were, the recovery timer as it was or stopped, the ceiling as it was: the form stays. -/
theorem BandForm.of_fields (b : BandForm s) (hb : t.stu.band = s.stu.band) (ht : t.stu.trip = s.stu.trip)
    (hr : t.stu.recovery = s.stu.recovery ∨ t.stu.recovery = none)
    (hp : t.stu.published.map (fun p => p.c) = s.stu.published.map fun p => p.c) : BandForm t where
  trip := by rw [ht, hb, b.trip]
  recovery := by
    rcases hr with hr | hr <;> rw [hr, hb]
    · exact b.recovery
    · exact fun h => absurd h Bool.noConfusion
  ceiling := by
    intro hs p h
    rw [hb] at hs
    rw [h] at hp
    obtain ⟨q, hq, e⟩ := Option.map_eq_some_iff.1 hp.symm
    exact e.symm.trans (b.ceiling hs q hq)

/-- A band that stops nothing has no trip record and no recovery timer. -/
theorem BandForm.of_free (hb : t.stu.band.stops = false) (ht : t.stu.trip = none) (hr : t.stu.recovery = none) :
    BandForm t where
  trip := by rw [ht, hb]; rfl
  recovery := by rw [hr]; exact fun h => absurd h Bool.noConfusion
  ceiling := by rw [hb]; exact fun h => absurd h Bool.noConfusion

theorem BandForm.trip_none (b : BandForm s) (h : s.stu.band.stops = false) : s.stu.trip = none := by
  rw [← Option.isSome_eq_false_iff.trans Option.isNone_iff_eq_none, b.trip, h]

theorem BandForm.recovery_none (b : BandForm s) (h : s.stu.band ≠ .tripped) : s.stu.recovery = none := by
  by_contra e
  exact h (b.recovery (Option.isSome_iff_ne_none.2 e))

/-! ### Each hand-off of the Stability Unit -/

theorem stuCompute_bandForm (c : Cause) (b : BandForm s) : BandForm (stuCompute c s).1 := by
  unfold stuCompute
  split
  · exact b
  · refine ⟨b.trip, b.recovery, fun hs p h => ?_⟩
    cases h
    cases hp : s.stu.published with
    | none => rfl
    | some q => exact b.ceiling hs q hp

theorem stuCeiling_bandForm (b : BandForm s) : BandForm (stuCeiling s).1 := by
  refine ⟨b.trip, b.recovery, fun hs p h => ?_⟩
  obtain ⟨q, -, rfl⟩ := Option.map_eq_some_iff.1 h
  exact if_pos hs

theorem stuTakeResult_bandForm (b : BandForm s) : BandForm (stuTakeResult s).1 := by
  unfold stuTakeResult
  split
  · exact b
  · have free (h : s.stu.band.stops = false) (c : Band) (hc : c.stops = false) :
        BandForm { s with stu := s.stu.setBand c } :=
      .of_free hc (b.trip_none h) (b.recovery_none (by rintro e; rw [e] at h; cases h))
    split
    · next e =>
      have h : s.stu.band.stops = false := by rw [e]; rfl
      simp only
      repeat' split
      · exact b
      · exact free h .caution rfl
      · exact b
    · next e =>
      have h : s.stu.band.stops = false := by rw [e]; rfl
      simp only
      repeat' split
      · exact b
      · exact free h .normal rfl
      · exact b
    · next e => exact ⟨b.trip, fun _ => e, b.ceiling⟩
    · exact b

theorem stuTrip_bandForm (c : TripCause) (b : BandForm s) : BandForm (stuTrip c s).1 := by
  have tripped (r : Published) (latched : Bool) (rec : TripRecord) :
      BandForm { s with stu := { s.stu with
        band := if latched then .latched else .tripped, trip := some rec, recovery := none, weederAdm := none
        prunerAdm := none, published := some { r with c := 0 } } } :=
    ⟨by cases latched <;> rfl, fun h => absurd h Bool.noConfusion, fun _ p h => by cases h; rfl⟩
  unfold stuTrip
  split
  · simp only; split <;> exact (tripped ..).of_stu rfl
  · simp only; split <;> exact (tripped ..).of_stu rfl
  · exact b

theorem stuRecover_bandForm (b : BandForm s) : BandForm (stuRecover s).1 := by
  unfold stuRecover
  split
  · split
    · exact .of_free rfl rfl rfl
    · exact b
  · exact b

theorem stuSensorFault_bandForm (b : BandForm s) : BandForm (stuSensorFault s).1 := by
  unfold stuSensorFault
  split
  · exact b
  · exact b
  · exact b.of_fields rfl rfl (.inr rfl) rfl
  · exact b

theorem setStatus_bandForm (r : Requester) (a : AdmStatus) (b : BandForm s) :
    BandForm { s with stu := s.stu.setStatus r a } := by
  cases r <;> exact b.of_fields rfl rfl (.inl rfl) rfl

theorem dropRecord_bandForm (r : Requester) (b : BandForm s) : BandForm { s with stu := s.stu.dropRecord r } := by
  cases r <;> exact b.of_fields rfl rfl (.inl rfl) rfl

theorem stuEvaluate_bandForm (first : Bool) (r : Requester) (b : BandForm s) : BandForm (stuEvaluate first r s).1 := by
  unfold stuEvaluate
  split
  · exact setStatus_bandForm r .granted b
  · exact b

theorem stuAsk_bandForm (r : Requester) (p : Pair) (b : BandForm s) : BandForm (stuAsk r p s).1 := by
  refine stuEvaluate_bandForm true r ?_
  cases r <;> exact b.of_fields rfl rfl (.inl rfl) rfl

theorem stuItem_bandForm (i : Item) (v : LoadItem) (b : BandForm s) : BandForm (stuItem i v s).1 := by
  unfold stuItem
  split
  · exact b
  · exact b.of_fields rfl rfl (.inl rfl) rfl

theorem stuMoveStarted_bandForm (r : Requester) (b : BandForm s) : BandForm (stuMoveStarted r s).1 := by
  unfold stuMoveStarted
  split
  · exact dropRecord_bandForm r b
  · exact b

theorem handle_bandForm (w : Work) (b : BandForm s) : BandForm (handle w s).1 := by
  cases h : w.changesStu with
  | false => exact b.of_stu ((handle_leaves w s).stu h)
  | true =>
    cases w
    case compute c => exact stuCompute_bandForm c b
    case takeResult => exact stuTakeResult_bandForm b
    case ceiling => exact stuCeiling_bandForm b
    case evalOne r => exact stuEvaluate_bandForm false r b
    case trip c => exact stuTrip_bandForm c b
    case recover => exact stuRecover_bandForm b
    case reload i => exact stuItem_bandForm i _ b
    case tankReport q => exact stuItem_bandForm .tank _ b
    case ask r p => exact stuAsk_bandForm r p b
    case withdraw r => exact dropRecord_bandForm r b
    case moveStarted r => exact stuMoveStarted_bandForm r b
    case sensorFault => exact stuSensorFault_bandForm b
    case profileTaken p n => exact b.of_fields rfl rfl (.inl rfl) rfl
    all_goals exact absurd h Bool.noConfusion

theorem cascade_bandForm (ws : List Work) (b : BandForm s) : BandForm (cascade ws s) :=
  run_keeps (fun w _ p => handle_bandForm w p) (fun _ p => p.of_stu rfl) _ ws s b

end Sys2Proof.Machine

/-! PROOFS. The band, its trip record, its recovery timer and the ceiling at every row. -/

namespace Sys2Proof.Machine

variable {s t : State}

/-! ### A row as a whole -/

/-- A row of a part that is on: what the row does, then the output pins. -/
theorem live_on {f : State → State} (h : s.powered = true) : live f s = .next (f s).finish := by
  rw [live, if_pos h]

theorem live_keeps {P : State → Prop} {f : State → State} (h : live f s = .next t) (p : P s) (hf : P (f s).finish) : P t := by
  unfold live at h
  split at h <;> cases h
  · exact hf
  · exact p

theorem live_bandForm {f : State → State} (h : live f s = .next t) (b : BandForm s) (hf : BandForm (f s)) : BandForm t :=
  live_keeps h b (hf.of_stu rfl)

theorem takeFrame_bandForm (f : Frame) (b : BandForm s) : BandForm (takeFrame f s) := b.of_stu (takeFrame_stu f s)

theorem serve_bandForm {f : Frame} {act : State → State} (h : serve f act s = .next t) (b : BandForm s)
    (ha : BandForm (act (takeFrame f s))) : BandForm t := by
  refine live_bandForm h b ?_
  repeat' split
  · exact ha
  · exact b
  · exact cascade_bandForm _ b

theorem answer_bandForm {f : Frame} {m : State → Bool} {l : Bool} {body : State → Except Reason Accepted}
    (hb : ∀ a, body s = .ok a → BandForm a.1) (b : BandForm s) : BandForm (answer f m l body s) := by
  unfold answer
  repeat' split
  · exact b.of_stu rfl
  · exact b.of_stu rfl
  · exact b.of_stu rfl
  · next a h => exact (cascade_bandForm a.2.1 (hb a h)).of_stu rfl

/-- A command keeps the form when what it changes itself does. -/
theorem command_bandForm {kind : Nat} {tag : Byte} {payload : List Byte} {m : State → Bool} {l : Bool}
    {body : State → Except Reason Accepted} (h : command kind tag payload m l body s = .next t) (b : BandForm s)
    (hb : ∀ u a, BandForm u → body u = .ok a → BandForm a.1) : BandForm t :=
  serve_bandForm h b (answer_bandForm (fun a => hb _ a (takeFrame_bandForm _ b)) (takeFrame_bandForm _ b))

/-- A command that leaves the Stability Unit to its hand-offs keeps the form. -/
theorem command_bandForm_of_stu {kind : Nat} {tag : Byte} {payload : List Byte} {m : State → Bool} {l : Bool}
    {body : State → Except Reason Accepted} (h : command kind tag payload m l body s = .next t) (b : BandForm s)
    (hb : ∀ u a, body u = .ok a → a.1.stu = u.stu) : BandForm t :=
  command_bandForm h b fun u a bu h => bu.of_stu (hb u a h)

theorem boot_bandForm (s : State) : BandForm s.boot := .of_free rfl rfl rfl

/-! ### The rows that change the Stability Unit themselves -/

theorem execSamplePeriod_bandForm {x : Option (Int × Int × Int)} (h : execSamplePeriod x s = .next t) (b : BandForm s) :
    BandForm t := by
  have sampled (y : Sample) (u : State) (bu : BandForm u) : BandForm (u.takeSample y) := by
    unfold State.takeSample
    repeat' split
    · exact bu
    · exact cascade_bandForm _ (bu.of_fields rfl rfl (.inl rfl) rfl)
    · exact bu.of_fields rfl rfl (.inl rfl) rfl
  refine live_bandForm h b ?_
  have rated : BandForm { s.advance (s.time.sampleAt + s.samplePeriod) with stu := { s.stu with rate := s.profile.sampleRate } } :=
    b.of_fields rfl rfl (.inl rfl) rfl
  cases x with
  | none => exact rated.of_stu rfl
  | some r =>
    simp only
    split
    · exact rated.of_stu rfl
    · exact sampled _ _ (rated.of_stu rfl)

/-- The start of an episode stops the recovery timer and leaves band, trip record and ceiling. -/
theorem episode_bandForm {u : State} (b : BandForm s) (hb : u.stu.band = s.stu.band) (ht : u.stu.trip = s.stu.trip)
    (hp : u.stu.published = s.stu.published) : BandForm { u with stu := u.stu.episode } := by
  refine b.of_fields hb ht (.inr rfl) ?_
  rw [← hp]
  exact Option.map_map ..

theorem execStaleTimerExpiry_bandForm (h : execStaleTimerExpiry s = .next t) (b : BandForm s) : BandForm t := by
  refine live_bandForm h b ?_
  split
  · exact b
  · exact cascade_bandForm _
      (episode_bandForm b (u := { s.advance _ with stu := { s.stu with stale := true } }) rfl rfl rfl)

theorem execLostTimerExpiry_bandForm (h : execLostTimerExpiry s = .next t) (b : BandForm s) : BandForm t := by
  refine live_bandForm h b ?_
  split
  · exact b
  · exact cascade_bandForm _
      (episode_bandForm b (u := { s.advance _ with stu := { s.stu with lost := true } }) rfl rfl rfl)

theorem execReset_bandForm {tag : Byte} {payload : List Byte} (h : execReset tag payload s = .next t) (b : BandForm s) :
    BandForm t := by
  have blocks (u : State) (bu : BandForm u) : BandForm u.resetBlocks := by
    cases hl : u.stu.band == .latched with
    | true =>
      have e : u.stu.band = .latched := eq_of_beq hl
      refine bu.of_fields ?_ ?_ (.inr rfl) rfl
      · simp [State.resetBlocks, e]
      · simp [State.resetBlocks, e]
    | false =>
      refine .of_free ?_ ?_ rfl
      · simp [State.resetBlocks, hl, Band.stops]
      · simp [State.resetBlocks, hl]
  unfold execReset at h
  refine serve_bandForm h b ?_
  have bu := takeFrame_bandForm ⟨0x02#8, tag, payload⟩ b
  simp only
  repeat' split
  · exact bu.of_stu rfl
  · exact bu.of_stu rfl
  · exact bu.of_stu rfl
  · exact (cascade_bandForm _ (blocks _ bu)).of_stu rfl

theorem execClearLatch_bandForm {tag : Byte} {payload : List Byte} (h : execClearLatch tag payload s = .next t) (b : BandForm s) :
    BandForm t := by
  refine command_bandForm h b fun u a bu h => ?_
  repeat' split at h
  all_goals first | contradiction | cases h
  exact .of_free rfl rfl rfl

/-! ### What other blocks change on an event -/

theorem oduPost_stu (s : State) : (oduPost s).1.stu = s.stu := by
  unfold oduPost
  simp only
  repeat' split
  all_goals rfl

theorem ttrCapture_stu (s : State) : (ttrCapture s).1.stu = s.stu := by
  unfold ttrCapture
  simp only
  repeat' split
  all_goals rfl

theorem lgsAttemptFailed_stu (r : SprayRecord) (n : Nat) (cut : Bool) (s : State) :
    (lgsAttemptFailed r n cut s).1.stu = s.stu := by
  unfold lgsAttemptFailed
  simp only
  repeat' split
  all_goals rfl

theorem lgsPartDone_stu (n : Nat) (image : List Byte) (part : RegPart) (cut : Bool) (s : State) :
    (lgsPartDone n image part cut s).1.stu = s.stu := by
  cases part <;> rfl

theorem lgsPartFailed_stu (n : Nat) (part : RegPart) (s : State) : (lgsPartFailed n part s).1.stu = s.stu := by
  cases part <;> rfl

theorem pruneHalt_stu (s : State) : s.pruneHalt.1.stu = s.stu := by
  unfold State.pruneHalt
  repeat' split
  all_goals rfl

theorem recoverWeeder_stu (s : State) : s.recoverWeeder.stu = s.stu := by
  unfold State.recoverWeeder
  repeat' split
  all_goals rfl

/-! ### Every row -/

theorem exec_bandForm (i : Instr) (h : exec i s = .next t) (b : BandForm s) : BandForm t := by
  cases i
  case powerOn => cases h; exact (boot_bandForm _).of_stu rfl
  case powerLoss =>
    cases h
    split
    · exact (boot_bandForm _).of_stu rfl
    · exact b
  case resetLine => exact live_bandForm h b ((boot_bandForm s).of_stu rfl)
  case samplePeriod => exact execSamplePeriod_bandForm h b
  case staleTimerExpiry => exact execStaleTimerExpiry_bandForm h b
  case lostTimerExpiry => exact execLostTimerExpiry_bandForm h b
  case reset => exact execReset_bandForm h b
  case clearLatch => exact execClearLatch_bandForm h b
  case setPayload =>
    refine command_bandForm h b fun u a bu h => ?_
    split at h
    · cases h; exact bu.of_fields rfl rfl (.inl rfl) rfl
    · cases h
  case unknownKind k tag payload =>
    simp only [exec, execUnknownKind] at h
    split at h
    · exact live_bandForm h b b
    · exact serve_bandForm h b ((takeFrame_bandForm _ b).of_stu rfl)
  case postCapture =>
    simp only [exec, execPostCapture] at h
    refine live_bandForm h b ?_
    split
    · exact cascade_bandForm _ (b.of_stu (oduPost_stu s))
    · exact b
  case feelerCapture =>
    simp only [exec, execFeelerCapture] at h
    refine live_bandForm h b ?_
    split
    · exact cascade_bandForm _ (b.of_stu (ttrCapture_stu s))
    · exact b
  case recordWriteAttemptDone ok =>
    simp only [exec, execRecordWriteAttemptDone] at h
    refine live_bandForm h b ?_
    split
    · cases ok
      · exact cascade_bandForm _ (b.of_stu (lgsAttemptFailed_stu ..))
      · exact cascade_bandForm _ (b.of_stu rfl)
    all_goals exact b
  case regProgramPartDone ok =>
    simp only [exec, execRegProgramPartDone] at h
    refine live_bandForm h b ?_
    split
    · cases ok
      · exact cascade_bandForm _ (b.of_stu (lgsPartFailed_stu ..))
      · exact cascade_bandForm _ (b.of_stu (lgsPartDone_stu ..))
    all_goals exact b
  case loadBays =>
    refine command_bandForm_of_stu h b fun u a h => ?_
    simp only at h
    repeat' split at h
    all_goals first | contradiction | (cases h; exact arrange_stu _ _ _)
  case profileCheckDone | logScanDone | regScanDone |recoveryExpiry | encoderTransition | speedRecord | armExt |
    armRet | armDeadlineExpiry | simArmMoveDone | headInpos | headDeadlineExpiry | simHeadMoveDone | phaseTimerExpiry |
    stepWaitExpiry | flowPulse | storeOperationBegin | recordWriteBegin |
    profileWriteComplete | silenceExpiry | secondsTick | keyChange | validFrame | frameDiscard | frameGapTimeout | frameSent |
    byteReceived | ceilPeriodStart =>
    simp only [exec, execProfileCheckDone, execLogScanDone, execRegScanDone, execRecoveryExpiry, execEncoderTransition,
      execSpeedRecord, execArmExt, execArmRet, execArmDeadlineExpiry, execSimArmMoveDone, execHeadInpos,
      execHeadDeadlineExpiry, execSimHeadMoveDone, execPhaseTimerExpiry, execStepWaitExpiry, execFlowPulse,
      execStoreOperationBegin, execRecordWriteBegin, execProfileWriteComplete, execSilenceExpiry, execSecondsTick,
      execKeyChange, execValidFrame, execFrameDiscard, execFrameGapTimeout, execFrameSent, execByteReceived,
      execCeilPeriodStart] at h
    refine live_bandForm h (b.of_stu rfl) ?_
    repeat' split
    all_goals first | exact b.of_stu rfl | exact cascade_bandForm _ (b.of_stu rfl)
  case weederRecover =>
    refine command_bandForm_of_stu h b fun u a h => ?_
    split at h
    · cases h
    · cases h; exact recoverWeeder_stu u
  case pruneHalt =>
    refine command_bandForm_of_stu h b fun u a h => ?_
    cases h
    exact pruneHalt_stu u
  case status | setTime | profileRead | stabRead | tankRead | wake | passHold | passClose | passRead | weederRead |
    pruneRead | logStatus | logRead =>
    exact command_bandForm_of_stu h b fun u a h => by cases h; rfl
  case mapClear | mapUnlock | park | passResume | pruneArm =>
    refine command_bandForm_of_stu h b fun u a h => ?_
    repeat' split at h
    all_goals first | contradiction | (cases h; rfl)
  all_goals
    refine command_bandForm_of_stu h b fun u a h => ?_
    simp only at h
    repeat' split at h
    all_goals first | contradiction | (cases h; rfl)

/-- Settles O58: the form is kept by the change each row makes itself and by each hand-off after it. -/
theorem bandKeepsToItsRecord : Obligations.BandKeepsToItsRecord := by
  intro s t h b
  unfold step at h
  split at h
  · exact exec_bandForm _ h (b.of_stu rfl)
  · cases h; exact b

end Sys2Proof.Machine

/-! PROOFS. The arithmetic of spec 01: clamping, trimming, the projected offsets, the two margins, the ceiling. -/

namespace Sys2Proof.Machine

/-! ### Clamping and truncated division -/

theorem clampInt_eq {lo hi : Int} (h : lo ≤ hi) (v : Int) : clampInt lo hi v = max lo (min hi v) := by
  unfold clampInt
  split
  · omega
  · split <;> omega

/-- An offset differs from the one held in its range exactly outside the range (R17). -/
theorem ne_clampInt_iff (v : Int) : (v != clampInt (-32767) 32767 v) = true ↔ 32767 < v.natAbs := by
  rw [clampInt_eq (by decide), bne_iff_ne]
  omega

theorem ne_max_iff (lo v : Int) : (v != max lo v) = true ↔ v < lo := by
  rw [bne_iff_ne]
  omega

theorem natAbs_mul_le {a b : Int} {m n : Nat} (ha : a.natAbs ≤ m) (hb : b.natAbs ≤ n) : (a * b).natAbs ≤ m * n := by
  rw [Int.natAbs_mul]
  exact Nat.mul_le_mul ha hb

theorem tdiv_le_of_le_mul {a d n : Int} (hd : 0 < d) (h : a ≤ n * d) : a.tdiv d ≤ n :=
  (Int.tdiv_le_tdiv hd h).trans_eq (Int.mul_tdiv_cancel n hd.ne')

/-! ### The projected offsets (R17) -/

/-- One offset: the coordinate and its truncated projection, held within 32,767 (R17). -/
def projected (y h a z : Int) : Int := clampInt (-32767) 32767 (y + (h * a).tdiv z)

section Margin

variable (p : Profile) (k : Bool) (c : Composite) (a : Axes)

theorem projected_level {y h a z : Int} (e : h = 0 ∨ a = 0) (hy : y.natAbs ≤ 32767) : projected y h a z = y := by
  have e0 : h * a = 0 := Int.mul_eq_zero.2 e
  rw [projected, e0, Int.zero_tdiv, clampInt_eq (by decide)]
  omega

theorem le_projected {y h a z : Int} (hz : 0 < z) (hh : 0 ≤ h) (ha : 0 ≤ a) (hy : y.natAbs ≤ 32767) :
    y ≤ projected y h a z := by
  have q : 0 ≤ (h * a).tdiv z := Int.tdiv_nonneg (Int.mul_nonneg hh ha) hz.le
  rw [projected, clampInt_eq (by decide)]
  omega

/-! ### The two margins (R18 to R20) -/

/-- The truncated margin of a distance `d` from the middle to an edge at `w`, in thousandths. -/
def edgeMargin (w d : Int) : Int := (1000 * (w - d)).tdiv w

theorem edgeMargin_le {w d : Int} (hw : 0 < w) (hd : 0 ≤ d) : edgeMargin w d ≤ 1000 :=
  tdiv_le_of_le_mul hw (by omega)

theorem edgeMargin_middle {w : Int} (hw : 0 < w) : edgeMargin w 0 = 1000 := by
  rw [edgeMargin, Int.sub_zero, Int.mul_tdiv_cancel _ (by omega)]

theorem edgeMargin_neg {w d : Int} (hw : 0 < w) (hd : w < d) (h : w ≤ 1000) : edgeMargin w d < 0 := by
  have : edgeMargin w d ≤ -1 := tdiv_le_of_le_mul hw (by omega)
  omega

/-- The untruncated values of the two margins, as R18 and R19 give them before they are held at −1000. -/
def lateral (p : Profile) (dy : Int) : Int := edgeMargin p.halfTrack dy.natAbs

def longitudinal (p : Profile) (dx : Int) : Int :=
  if 0 ≤ dx then edgeMargin p.tipFront dx else edgeMargin p.tipRear dx.natAbs

theorem longitudinal_le {p : Profile} (hf : 0 < p.tipFront) (hr : 0 < p.tipRear) (dx : Int) : longitudinal p dx ≤ 1000 := by
  unfold longitudinal
  split
  · exact edgeMargin_le hf ‹_›
  · exact edgeMargin_le hr (by omega)

theorem margin_axis : (margin p k c a).axis = .lateral ↔ (margin p k c a).l ≤ (margin p k c a).g := by
  have e : (margin p k c a).axis = if (margin p k c a).l ≤ (margin p k c a).g then .lateral else .longitudinal := rfl
  rw [e]
  split <;> simp_all

theorem margin_side_lateral (h : (margin p k c a).axis = .lateral) :
    ((margin p k c a).side = .right ↔ 0 ≤ (margin p k c a).dy) ∧ ((margin p k c a).side = .left ↔ (margin p k c a).dy < 0) := by
  rw [margin_axis] at h
  have e : (margin p k c a).side = if 0 ≤ (margin p k c a).dy then .right else .left := if_pos h
  rw [e]
  split <;> simp_all

theorem margin_side_longitudinal (h : (margin p k c a).axis = .longitudinal) :
    ((margin p k c a).side = .front ↔ 0 ≤ (margin p k c a).dx) ∧ ((margin p k c a).side = .rear ↔ (margin p k c a).dx < 0) := by
  have n : ¬ (margin p k c a).l ≤ (margin p k c a).g := by rw [← margin_axis, h]; decide
  have e : (margin p k c a).side = if 0 ≤ (margin p k c a).dx then .front else .rear := if_neg n
  rw [e]
  split <;> simp_all

end Margin

/-! ### The ceiling (R22) -/

theorem ceilingOf_eq {p : Profile} (hv : 0 ≤ p.vMax) (e : Int) :
    (ceilingOf p e : Int) = max 0 (min p.vMax ((p.vMax * (e - p.sTrip)).tdiv (p.sFull - p.sTrip))) := by
  rw [ceilingOf, clampInt_eq hv]
  omega

section Ceiling

variable {p : Profile} (hv : 0 ≤ p.vMax) (hf : p.sTrip < p.sFull)

include hv

theorem ceilingOf_le_vMax (e : Int) : (ceilingOf p e : Int) ≤ p.vMax := by
  rw [ceilingOf_eq hv]
  omega

include hf

theorem ceilingOf_mono {e e' : Int} (h : e ≤ e') : ceilingOf p e ≤ ceilingOf p e' := by
  have q := Int.tdiv_le_tdiv (Int.sub_pos_of_lt hf) (Int.mul_le_mul_of_nonneg_left (Int.sub_le_sub_right h p.sTrip) hv)
  rw [← Int.ofNat_le, ceilingOf_eq hv, ceilingOf_eq hv]
  omega

theorem ceilingOf_trip {e : Int} (h : e ≤ p.sTrip) : ceilingOf p e = 0 := by
  have top : ceilingOf p p.sTrip = 0 := by
    rw [← Int.ofNat_inj, ceilingOf_eq hv, Int.sub_self, Int.mul_zero, Int.zero_tdiv]
    omega
  exact Nat.le_zero.1 (top ▸ ceilingOf_mono hv hf h)

theorem ceilingOf_full {e : Int} (h : p.sFull ≤ e) : (ceilingOf p e : Int) = p.vMax := by
  have full : (ceilingOf p p.sFull : Int) = p.vMax := by
    rw [ceilingOf_eq hv, Int.mul_tdiv_cancel _ (Int.sub_pos_of_lt hf).ne']
    omega
  have := ceilingOf_mono hv hf h
  have := ceilingOf_le_vMax hv e
  omega

end Ceiling

/-- Settles O8: the offsets are clamped sums, the two margins truncated quotients held at −1000. -/
theorem marginOfACompositeUnderTilt : Obligations.MarginOfACompositeUnderTilt := by
  refine ⟨fun p k c a => ?_, fun p k c a hw hf hr => ?_⟩
  · refine ⟨clampInt_eq (by decide) _, clampInt_eq (by decide) _, ne_clampInt_iff _,
      ne_clampInt_iff _, fun h0 h1 hx hy => ?_, projected_level, fun hz hh ha hy => le_projected hz hh ha hy,
      fun hz hh ha hx => le_projected hz hh ha hx⟩
    have hh : c.h.natAbs ≤ 3000 := by omega
    exact ⟨natAbs_mul_le hh hx, natAbs_mul_le hh hy⟩
  · intro m l g
    have hl : m.l = max (-1000) l := rfl
    have hg : m.g = max (-1000) g := rfl
    have hs : m.s = min m.l m.g := rfl
    have ll : l ≤ 1000 := edgeMargin_le hw (by omega)
    have lg : g ≤ 1000 := longitudinal_le hf hr m.dx
    refine ⟨hl, ne_max_iff _ _, by omega, fun h => ?_, fun h e => ?_, fun h hle => ?_, hg, ne_max_iff _ _, by omega, hs,
      margin_axis .., margin_side_lateral p k c a, margin_side_longitudinal p k c a, by omega, by omega⟩
    · have : l = 1000 := by
        have := edgeMargin_middle hw
        simpa [l, edgeMargin, h] using this
      omega
    · have : l = -76 := by simp only [l, h, e]; decide
      omega
    · have : l < 0 := edgeMargin_neg hw h hle
      omega

end Sys2Proof.Machine

/-! PROOFS. The rows CEIL_PERIOD_START and SAMPLE_PERIOD: the clock's move, the trim, the ring, the arrival. -/

namespace Sys2Proof.Machine

variable {s : State}

/-! ### CEIL_PERIOD_START (R41) -/

/-- The state at the start of a CEIL period: the clock moved on, the duty as it stands on the pin. -/
def State.atCeil (s : State) : State :=
  let c := s.advance (s.time.ceilAt + 1)
  { c with time := { c.time with ceilAt := c.time.now }, out := { s.out with ceil := s.duty } }

theorem exec_ceilPeriodStart (h : s.powered = true) : exec .ceilPeriodStart s = .next s.atCeil.finish := by
  simp only [exec, execCeilPeriodStart]
  exact live_on h

/-- Settles O9: the ceiling is a clamped truncated quotient, rising in the margin; the permit of the pin is the duty's own. -/
theorem ceilingAndItsDuty : Obligations.CeilingAndItsDuty := by
  refine ⟨fun p e hv hf => ⟨ceilingOf_le_vMax hv e, ceilingOf_trip hv hf, ceilingOf_full hv hf, fun e' => ceilingOf_mono hv hf⟩,
    by decide, by decide, fun s hp => ⟨_, exec_ceilPeriodStart hp, rfl, fun released => ?_, fun r driven hr => ?_, rfl⟩⟩
  · exact if_neg (by rw [Bool.not_eq_true]; exact released)
  · refine (if_pos driven).trans ?_
    simp [hr]

/-! ### The trim of a reading (R11) -/

theorem trimAxis_value (raw trim : Int) : (trimAxis raw trim).1 = max (-4000) (min 4000 (raw + trim)) :=
  clampInt_eq (by decide) _

theorem trimAxis_clipped (raw trim : Int) :
    (trimAxis raw trim).2 = true ↔ raw.natAbs = 4000 ∨ 4000 < (raw + trim).natAbs := by
  simp only [trimAxis, Bool.or_eq_true, beq_iff_eq, decide_eq_true_eq]
  omega

theorem trimSample_clipped (p : Profile) (x y z : Int) : (trimSample p (x, y, z)).clipped = true ↔
    (x.natAbs = 4000 ∨ y.natAbs = 4000 ∨ z.natAbs = 4000) ∨
      (4000 < (x + p.trimX).natAbs ∨ 4000 < (y + p.trimY).natAbs ∨ 4000 < (z + p.trimZ).natAbs) := by
  simp only [trimSample, Bool.or_eq_true, trimAxis_clipped]
  tauto

/-! ### The sample row -/

/-- The state at the read that ends a sample period: the clock moved on, the profile's rate in use from now on (R9, R10). -/
def State.atRead (s : State) : State :=
  let c := s.advance (s.time.sampleAt + s.samplePeriod)
  { c with time := { c.time with sampleAt := c.time.now }, stu := { s.stu with rate := s.profile.sampleRate } }

theorem exec_samplePeriod_none (h : s.powered = true) : exec (.samplePeriod none) s = .next s.atRead.finish := by
  simp only [exec, execSamplePeriod]
  exact live_on h

/-- A reading in the PROFILE_CHECK phase is no arrival (R12). -/
theorem exec_samplePeriod_discarded {x : Int × Int × Int} (h : s.powered = true) (m : s.mode = .startup)
    (p : s.mlk.phase = .profileCheck) : exec (.samplePeriod (some x)) s = .next s.atRead.finish := by
  simp only [exec, execSamplePeriod]
  rw [live_on h]
  exact congrArg (fun u : State => Host.Outcome.next u.finish) (if_pos (Bool.and_eq_true_iff.2 ⟨beq_iff_eq.2 m, beq_iff_eq.2 p⟩))

theorem exec_samplePeriod_some {x : Int × Int × Int} (h : s.powered = true)
    (m : s.mode ≠ .startup ∨ s.mlk.phase ≠ .profileCheck) :
    exec (.samplePeriod (some x)) s = .next (s.atRead.takeSample (trimSample s.profile x)).finish := by
  simp only [exec, execSamplePeriod]
  rw [live_on h]
  refine congrArg (fun u : State => Host.Outcome.next u.finish) (if_neg fun hc => ?_)
  obtain ⟨hm, hp⟩ := Bool.and_eq_true_iff.1 hc
  exact m.elim (· (beq_iff_eq.1 hm)) (· (beq_iff_eq.1 hp))

/-! ### An arrival (R12, R13) -/

theorem takeSample_plausible {x : Sample} {r : Ring4} (hr : s.stu.arrive x = some r) (h : 250 ≤ r.average.z) :
    s.takeSample x = cascade [.compute .arrival] { s with stu := s.stu.plausible r s.time.now } := by
  simp only [State.takeSample, hr]
  exact if_pos h

theorem takeSample_implausible {x : Sample} {r : Ring4} (hr : s.stu.arrive x = some r) (h : r.average.z < 250) :
    s.takeSample x = { s with stu := { s.stu with ring := some r, implausible := true } } := by
  simp only [State.takeSample, hr]
  exact if_neg (Int.not_le.2 h)

theorem takeSample_none {x : Sample} (hr : s.stu.arrive x = none) : s.takeSample x = s := by
  simp [State.takeSample, hr]

/-- Whatever its averages, an arrival that enters the ring is in it afterwards. -/
theorem takeSample_ring {x : Sample} : (s.takeSample x).stu.ring = s.stu.arrive x := by
  cases hr : s.stu.arrive x with
  | none =>
    rw [takeSample_none hr]
    cases hq : s.stu.ring with
    | none => rfl
    | some q => simp [Stu.arrive, hq] at hr
  | some r =>
    rcases Int.lt_or_le r.average.z 250 with h | h
    · rw [takeSample_implausible hr h]
    · rw [takeSample_plausible hr h, (cascade_base _ _ rfl).ring]
      rfl

theorem arrive_push {u : Stu} {x : Sample} {q : Ring4} (h : u.ring = some q) : u.arrive x = some (q.push x) := by
  simp [Stu.arrive, h]

/-- The state in which a plausible arrival past STARTUP starts its computation: `r` is the ring, its averages are held. -/
def State.arrival (s : State) (r : Ring4) : State :=
  { s.atRead with stu := s.atRead.stu.plausible r s.atRead.time.now }

theorem exec_arrival {x : Int × Int × Int} {q : Ring4} (h : s.powered = true) (m : s.mode ≠ .startup)
    (hq : s.stu.ring = some q) (z : 250 ≤ (q.push (trimSample s.profile x)).average.z) :
    exec (.samplePeriod (some x)) s =
      .next (cascade [.compute .arrival] (s.arrival (q.push (trimSample s.profile x)))).finish := by
  rw [exec_samplePeriod_some h (.inl m), takeSample_plausible (arrive_push (u := s.atRead.stu) hq) z]
  rfl

theorem arrive_first {u : Stu} {x : Sample} (h : u.ring = none) :
    u.arrive x = if 250 ≤ x.a.z then some ⟨x, x, x, x⟩ else none := by
  simp only [Stu.arrive, h]
  rfl

/-! ### What a result changes (R16, R22, R29) -/

/-- The result that a computation publishes under the averages `a`. -/
def State.result (s : State) (c : Cause) (a : Axes) : Published :=
  { margin := s.marginOf s.stu.load a, composite := composite s.stu.load, a, cause := c
    sampleState := s.sampleState, c := (s.stu.published.map fun p => p.c).getD 0 }

/-- The state with `r` as the published result. -/
def State.publish (s : State) (r : Published) : State := { s with stu := { s.stu with published := some r } }

/-- A computation past the first result: the result published and handed on (R16, R21). -/
theorem handle_compute {c : Cause} {a : Axes} (h : s.stu.held = some a) (p : s.stu.published.isSome = true) :
    handle (.compute c) s = (s.publish (s.result c a), [.takeResult, .ceiling, .evalWaiting] ++ (s.result c a).clipReport) := by
  have e : s.computed = true := p
  simp [handle, stuCompute, h, e, State.result, State.publish]

/-- The ceiling of a result under a band that stops nothing (R22). -/
theorem handle_ceiling {r : Published} (h : s.stu.published = some r) (b : s.stu.band.stops = false) :
    handle .ceiling s =
      (s.publish { r with c := ceilingOf s.profile r.margin.sEff }, []) := by
  simp [handle, stuCeiling, h, b, State.publish]

theorem Published.clipReport_none {r : Published} (h : r.margin.clipped.any = false) : r.clipReport = [] := by
  simp [Published.clipReport, h]

theorem Stu.status_pruner_none {u : Stu} (h : u.prunerAdm = none) : u.status .pruner = none := by
  simp [Stu.status, h]

/-- A record that does not wait, or one not admissible, is left alone (R25). -/
theorem handle_evalOne_keeps {r : Requester} (h : s.stu.status r ≠ some .waiting ∨ s.admissible r = false) :
    handle (.evalOne r) s = (s, []) := by
  rcases h with h | h <;> simp [handle, stuEvaluate, h]

theorem handle_evalWaiting_one (h : s.stu.status .weeder ≠ some .waiting ∨ s.stu.status .pruner ≠ some .waiting) :
    handle .evalWaiting s = (s, [.evalOne .weeder, .evalOne .pruner]) := by
  rcases h with h | h <;> simp [handle, stuEvalWaiting, h]

/-- Without a record of the pruner, and none of the weeder that a result would grant, a result changes no record. -/
theorem run_evalWaiting_keeps {n : Nat} (w : s.stu.status .weeder ≠ some .waiting ∨ s.admissible .weeder = false)
    (q : s.stu.prunerAdm = none) : run (n + 3) [.evalWaiting] s = s := by
  have nq : s.stu.status .pruner ≠ some .waiting := by rw [Stu.status_pruner_none q]; decide
  rw [run_one (handle_evalWaiting_one (.inr nq))]
  simp only [List.append_nil]
  rw [run_leaf (handle_evalOne_keeps w), run_leaf (handle_evalOne_keeps (.inl nq)), run_nil]

/-- A good result in NORMAL, nothing clipped and no admission record to grant: the result and its ceiling are the whole effect. -/
theorem cascade_compute_quiet {c : Cause} {a : Axes} (h : s.stu.held = some a) (p : s.stu.published.isSome = true)
    (b : s.stu.band = .normal)
    (w : s.stu.status .weeder ≠ some .waiting ∨ s.admissible .weeder = false) (q : s.stu.prunerAdm = none)
    (k : (s.marginOf s.stu.load a).clipped.any = false) (t : s.profile.sTrip ≤ (s.marginOf s.stu.load a).sEff)
    (g : s.profile.sCaution ≤ (s.marginOf s.stu.load a).sEff) :
    cascade [.compute c] s =
      s.publish { s.result c a with c := ceilingOf s.profile (s.marginOf s.stu.load a).sEff } := by
  have free : (s.publish (s.result c a)).stu.band.stops = false := congrArg Band.stops b
  rw [cascade_eq, run_one (handle_compute h p), Published.clipReport_none k]
  simp only [List.cons_append, List.nil_append]
  rw [run_leaf (handle_takeResult_normal (s.publish (s.result c a)) rfl b t g), run_leaf (handle_ceiling rfl free)]
  exact run_evalWaiting_keeps (s := (s.publish _).publish _) w q

/-- Settles O10: a plausible arrival holds its averages and starts a computation, whose hand-offs are those of the lemma
above in the third case and keep the frame in every case. -/
theorem sampleArrivals : Obligations.SampleArrivals := by
  refine ⟨fun s hp hm => ⟨⟨_, exec_samplePeriod_none hp, rfl, rfl, rfl, rfl⟩, fun q x hq => ⟨fun h => ?_, fun h => ?_⟩⟩,
    fun s q x old hp hm hq ho hb hw hr h hc hca ht => ?_⟩
  · rw [exec_samplePeriod_some hp (.inl hm), takeSample_implausible (arrive_push (u := s.atRead.stu) hq) h]
    rfl
  · exact ⟨_, exec_arrival hp hm hq h, (cascade_base [.compute .arrival] _ rfl).trans (by constructor <;> rfl)⟩
  · have quiet := cascade_compute_quiet (s := s.arrival _) (c := .arrival) rfl (Option.isSome_iff_exists.2 ⟨old, ho⟩) hb
      (.inl (by simp [State.arrival, State.atRead, Stu.plausible, Stu.status, hw])) hr hc ht hca
    rw [exec_arrival hp hm hq h, quiet]
    rfl

/-- Settles O11: trim and mark axis by axis; the ring by cases on whether the arrival is plausible. -/
theorem trimmedSampleEntersTheRing : Obligations.TrimmedSampleEntersTheRing := by
  refine ⟨fun p x y z => ?_, fun s x hp hm => ⟨fun q hq => ?_, fun hq => ?_⟩, fun s x hp hm hc => ?_⟩
  · refine ⟨trimAxis_value .., trimAxis_value .., trimAxis_value .., trimSample_clipped p x y z, fun ht hy => ?_, fun ht hy => ?_⟩
    · refine ⟨?_, (trimSample_clipped ..).2 (by omega)⟩
      exact (trimAxis_value y p.trimY).trans (by omega)
    · refine ⟨?_, (trimSample_clipped ..).2 (by omega)⟩
      exact (trimAxis_value y p.trimY).trans (by omega)
  · exact ⟨_, exec_samplePeriod_some hp hm, takeSample_ring.trans (arrive_push hq)⟩
  · exact ⟨_, exec_samplePeriod_some hp hm, takeSample_ring.trans (arrive_first hq)⟩
  · exact ⟨_, exec_samplePeriod_discarded hp hm hc, rfl, rfl⟩

end Sys2Proof.Machine

/-! PROOFS. What the hand-offs between blocks keep of a stopped band, of the flags, of a pass that does not run; a stale and a
lost episode. -/

namespace Sys2Proof.Machine

variable {s : State}

/-! ### A band that stops -/

/-- Under a band that stops no hand-off between blocks changes the band or the trip record (R28, R34). -/
theorem handle_stopped {w : Work} (h : plain [w] = true) (b : s.stu.band.stops = true) :
    (handle w s).1.stu.band = s.stu.band ∧ (handle w s).1.stu.trip = s.stu.trip := by
  cases hc : w.changesStu with
  | false => rw [(handle_leaves w s).stu hc]; exact ⟨rfl, rfl⟩
  | true =>
    cases w
    case compute => simp only [handle, stuCompute]; split <;> exact ⟨rfl, rfl⟩
    case takeResult =>
      simp only [handle, stuTakeResult]
      split
      · exact ⟨rfl, rfl⟩
      · split
        · next e => rw [e] at b; cases b
        · next e => rw [e] at b; cases b
        · exact ⟨rfl, rfl⟩
        · exact ⟨rfl, rfl⟩
    case ceiling => exact ⟨rfl, rfl⟩
    case evalOne r => cases r <;> simp only [handle, stuEvaluate] <;> split <;> exact ⟨rfl, rfl⟩
    case trip =>
      simp only [handle, stuTrip]
      split
      · next e _ => rw [e] at b; cases b
      · next e _ => rw [e] at b; cases b
      · exact ⟨rfl, rfl⟩
    case recover => cases h
    case reload => simp only [handle, stuReload, stuItem]; split <;> exact ⟨rfl, rfl⟩
    case tankReport => simp only [handle, stuTankReport, stuItem]; split <;> exact ⟨rfl, rfl⟩
    case ask r p => cases r <;> simp only [handle, stuAsk, stuEvaluate] <;> split <;> exact ⟨rfl, rfl⟩
    case withdraw r => cases r <;> exact ⟨rfl, rfl⟩
    case moveStarted r => cases r <;> simp only [handle, stuMoveStarted] <;> split <;> exact ⟨rfl, rfl⟩
    case sensorFault => simp only [handle, stuSensorFault]; split <;> exact ⟨rfl, rfl⟩
    case profileTaken => cases h
    all_goals cases hc

theorem plain_iff (ws : List Work) : plain ws = true ↔ ∀ w ∈ ws, plain [w] = true := by
  simp [plain]

/-- A property of the state that every hand-off between blocks keeps is kept by a step's hand-offs. -/
theorem run_plain {P : State → Prop} (h : ∀ w s, plain [w] = true → P s → P (handle w s).1)
    (ho : ∀ s, P s → P { s with overrun := true }) (n : Nat) {ws : List Work} (hw : plain ws = true) (p : P s) :
    P (run n ws s) :=
  run_within (W := fun w => plain [w] = true) h (fun w u hw _ => (plain_iff _).1 (handle_plain w u hw)) ho n ws s
    ((plain_iff ws).1 hw) p

theorem run_stopped (n : Nat) {ws : List Work} (h : plain ws = true) (b : s.stu.band.stops = true) :
    (run n ws s).stu.band = s.stu.band ∧ (run n ws s).stu.trip = s.stu.trip :=
  run_plain (P := fun u => u.stu.band = s.stu.band ∧ u.stu.trip = s.stu.trip)
    (fun w u hw ⟨hb, ht⟩ => by
      obtain ⟨kb, kt⟩ := handle_stopped (s := u) hw (hb ▸ b)
      exact ⟨kb.trans hb, kt.trans ht⟩)
    (fun _ p => p) n h ⟨rfl, rfl⟩

/-! ### Flags -/

/-- No hand-off makes a flag CLEAR (R191). -/
theorem handle_isSet (w : Work) (f : Flag) (h : (s.cdu.flags.get f).isSet = true) :
    ((handle w s).1.cdu.flags.get f).isSet = true := by
  cases hc : w.changesFlags with
  | false => rw [(handle_leaves w s).flags hc]; exact h
  | true =>
    cases w
    case occur g d => exact State.raise_isSet s g f d h
    case majorFlag c o m =>
      simp only [handle, cduMajorFlag]
      repeat' split
      all_goals exact State.raise_isSet s _ f _ h
    all_goals cases hc

theorem run_isSet (n : Nat) (ws : List Work) (f : Flag) (h : (s.cdu.flags.get f).isSet = true) :
    ((run n ws s).cdu.flags.get f).isSet = true :=
  run_keeps (P := fun u => (u.cdu.flags.get f).isSet = true) (fun w _ p => handle_isSet w f p) (fun _ p => p) n ws s h

/-! ### Occurrences -/

/-- An occurrence at a flag that is CLEAR, or of no minor fault, is the flag's alone (R191, R195). -/
theorem handle_occur {f : Flag} {d : Detail} (h : (s.cdu.flags.get f).isSet = false ∨ f.minorCause = none) :
    handle (.occur f d) s = (s.raise f d, []) := by
  simp only [handle, cduOccur]
  split
  · next hc =>
    rcases h with h | h
    · simp [h]
    · rw [h] at hc; cases hc
  · rfl

/-! ### The trip (R28, R30, R31) -/

/-- The state right after a trip, before its hand-offs. -/
def State.tripped (s : State) (c : TripCause) (r : Published) : State :=
  let latched := s.cdu.flags.trip.isSet
  { s with stu := { s.stu with band := if latched then .latched else .tripped, recovery := none, weederAdm := none
                               trip := some (r.tripRecord c s.sampleState latched), prunerAdm := none
                               published := some { r with c := 0 } } }

/-- The hand-offs of a trip, for one of the two orders of the Spray Gate's decision and the suspension (R32, R126, R170). -/
def State.tripWorks (s : State) (c : TripCause) (r : Published) (order : Nat) : List Work :=
  let latched := s.cdu.flags.trip.isSet
  let t := r.tripRecord c s.sampleState latched
  [.occur .trip (.trip t)] ++ (if latched then [.occur .latch (.trip t)] else []) ++ [.reload .weeder, .reload .head] ++
    ((if s.stu.weederAdm.isSome then [Work.answer .weeder .refused] else []) ++
      if s.stu.prunerAdm.isSome then [Work.answer .pruner .refused] else []) ++
    [.weederTrip] ++ (if order = 0 then [.decide, .suspend .trip] else [.suspend .trip, .decide]) ++ [.prunerTrip]

theorem handle_trip {r : Published} (c : TripCause) (h : s.stu.published = some r) (b : s.stu.band.stops = false) :
    ∃ k n, handle (.trip c) s = ({ s.tripped c r with freeCount := n }, s.tripWorks c r k) := by
  have key : ∃ k n, stuTrip c s = ({ s.tripped c r with freeCount := n }, s.tripWorks c r k) := by
    unfold stuTrip
    rw [h]
    split
    · next hp =>
      cases hp
      simp only
      split
      · exact ⟨(State.choose _ 2).1, s.freeCount + 1, rfl⟩
      · exact ⟨0, s.freeCount, rfl⟩
    · next hp =>
      cases hp
      simp only
      split
      · exact ⟨(State.choose _ 2).1, s.freeCount + 1, rfl⟩
      · exact ⟨0, s.freeCount, rfl⟩
    · next h1 h2 =>
      cases hb : s.stu.band with
      | normal => exact absurd rfl (h1 r hb)
      | caution => exact absurd rfl (h2 r hb)
      | tripped => rw [hb] at b; cases b
      | latched => rw [hb] at b; cases b
  exact key

theorem tripWorks_plain (c : TripCause) (r : Published) (k : Nat) : plain (s.tripWorks c r k) = true := by
  simp only [State.tripWorks, plain_append, Bool.and_eq_true]
  refine ⟨⟨⟨⟨⟨⟨rfl, ?_⟩, rfl⟩, ?_, ?_⟩, rfl⟩, ?_⟩, rfl⟩
  all_goals split <;> rfl

/-- A trip in NORMAL or CAUTION with the hand-offs after it: the band, the trip record, TRIP and LATCH (R28, R30, R31). -/
theorem run_trip {n : Nat} {c : TripCause} {ws : List Work} {r : Published} (h : s.stu.published = some r)
    (b : s.stu.band.stops = false) (hw : plain ws = true) :
    let latched := (s.cdu.flags.get .trip).isSet
    let t := run (n + 3) (.trip c :: ws) s
    t.stu.band = (if latched then .latched else .tripped) ∧ t.stu.trip = some (r.tripRecord c s.sampleState latched) ∧
      (t.cdu.flags.get .trip).isSet = true ∧ (latched = true → (t.cdu.flags.get .latch).isSet = true) := by
  intro latched t
  obtain ⟨k, m, e⟩ := handle_trip c h b
  have stops : ({ s.tripped c r with freeCount := m } : State).stu.band.stops = true := by
    simp only [State.tripped]; split <;> rfl
  have p : plain (s.tripWorks c r k ++ ws) = true := by rw [plain_append, tripWorks_plain, hw]; rfl
  have et : t = run (n + 2) (s.tripWorks c r k ++ ws) { s.tripped c r with freeCount := m } := run_one e
  obtain ⟨hb, ht⟩ := run_stopped (n + 2) p stops
  refine ⟨et ▸ hb, et ▸ ht, ?_, fun hl => ?_⟩
  · rw [et]
    refine run_isSet (n + 1) _ .trip (s := State.raise _ .trip _) ?_
    simp [FlagState.isSet]
  · have el : s.cdu.flags.trip.isSet = true := hl
    rw [et]
    simp only [State.tripWorks, el, if_true, List.cons_append, List.nil_append, List.append_assoc]
    refine run_isSet n _ .latch (s := State.raise _ .latch _) ?_
    simp [FlagState.isSet]

/-- Whatever the band was, a trip event leaves one that stops. -/
theorem run_trip_stops {n : Nat} {c : TripCause} {ws : List Work} (h : s.stu.published.isSome = true)
    (hw : plain ws = true) : (run (n + 3) (.trip c :: ws) s).stu.band.stops = true := by
  cases b : s.stu.band.stops with
  | true => rw [(run_stopped (s := s) (ws := .trip c :: ws) _ (by simpa [plain] using hw) b).1, b]
  | false =>
    obtain ⟨r, hr⟩ := Option.isSome_iff_exists.1 h
    rw [(run_trip hr b hw).1]
    split <;> rfl

theorem finish_driveEn_stops (b : s.stu.band.stops = true) : s.finish.out.driveEn = false := by
  simp [State.pinsOut, State.permit, b]

/-! ### The stale and the lost episode (R14, R15) -/

/-- The state in which a stale episode is reported. -/
def State.atStale (s : State) : State :=
  { s.advance (s.stu.plausibleAt + 3 * s.samplePeriod) with stu := ({ s.stu with stale := true } : Stu).episode }

/-- The state in which a lost episode is reported. -/
def State.atLost (s : State) : State :=
  { s.advance (s.stu.plausibleAt + 250) with stu := ({ s.stu with lost := true } : Stu).episode }

theorem exec_staleTimerExpiry (h : s.powered = true) (st : s.stu.stale = false) :
    exec .staleTimerExpiry s =
      .next (cascade [.occur .sensorStale (.minor (.stale s.stu.rate s.stu.implausible))] s.atStale).finish := by
  simp only [exec, execStaleTimerExpiry]
  rw [live_on h]
  exact congrArg (fun u : State => Host.Outcome.next u.finish) (if_neg (by rw [st]; decide))

theorem exec_lostTimerExpiry (h : s.powered = true) (st : s.stu.stale = true) (l : s.stu.lost = false) :
    exec .lostTimerExpiry s =
      .next (cascade (.occur .sensorLost (.sensorLost ((s.advance (s.stu.plausibleAt + 250)).time.now - s.stu.plausibleAt)) ::
        if s.computed then [.trip .sensorLost] else []) s.atLost).finish := by
  simp only [exec, execLostTimerExpiry]
  rw [live_on h]
  exact congrArg (fun u : State => Host.Outcome.next u.finish) (if_neg (by rw [st, l]; decide))

/-- Settles O13: the report is the flag's alone, and past STARTUP a trip event follows it. -/
theorem staleAndLostEpisodes : Obligations.StaleAndLostEpisodes := by
  refine ⟨fun s hp hs hl hf => ?_, fun s hp hs hl => ⟨fun hn => ?_, fun hn => ?_⟩⟩
  · rw [exec_staleTimerExpiry hp hs, cascade_eq, run_leaf (handle_occur (s := s.atStale) (.inl hf)), run_nil]
    simp only [State.atStale, Stu.episode, hl]
    rfl
  · have nc : s.computed = false := by simp [State.computed, hn]
    rw [exec_lostTimerExpiry hp hs hl, nc, cascade_eq]
    simp only [Bool.false_eq_true, if_false]
    rw [run_leaf (handle_occur (.inr rfl)), run_nil]
    simp only [State.atLost, Stu.episode, hn]
    rfl
  · have c : s.computed = true := hn
    let v := s.atLost.raise .sensorLost (.sensorLost ((s.advance (s.stu.plausibleAt + 250)).time.now - s.stu.plausibleAt))
    have vs : v.stu = s.atLost.stu := State.raise_stu ..
    obtain ⟨p, hpub⟩ := Option.isSome_iff_exists.1 hn
    have vp : v.stu.published = some { p with sampleState := .lost } := by
      simp [vs, State.atLost, Stu.episode, hpub]
    have e : exec .lostTimerExpiry s = .next (run (999999999900 + 96 + 3) [.trip .sensorLost] v).finish := by
      rw [exec_lostTimerExpiry hp hs hl, if_pos c, cascade_eq, run_leaf (handle_occur (.inr rfl))]
    have stops := run_trip_stops (s := v) (n := 999999999900 + 96) (c := .sensorLost) (ws := [])
      (by rw [vp]; rfl) rfl
    refine ⟨_, e, ?_, stops, finish_driveEn_stops stops, ?_, fun free => ?_⟩
    · refine .trans (.trans ?_ (raise_base s.atLost _ _)) ((run_base _ _ v rfl).trans (by constructor <;> rfl))
      constructor <;> rfl
    · refine run_isSet _ _ .sensorLost (s := v) ?_
      simp [v, FlagState.isSet]
    · have fv : v.stu.band.stops = false := by rw [vs]; exact free
      refine ⟨_, (run_trip vp fv (n := 999999999900 + 96) rfl).2.1, rfl, ?_⟩
      have lost : v.stu.lost = true := by rw [vs]; rfl
      simp [Published.tripRecord, State.sampleState, lost]

end Sys2Proof.Machine

/-! PROOFS. SET_PAYLOAD, PROFILE_WRITE and its completion. -/

namespace Sys2Proof.Machine

variable {s : State}

/-! ### A computation at a load item's change is published as such (R16) -/

/-- The latest result comes from a load item's change. -/
def State.resultOfLoad (s : State) : Prop := ∃ r, s.stu.published = some r ∧ r.cause = .load

theorem resultOfLoad_of_stu {t : State} (h : t.stu.published = s.stu.published) (p : s.resultOfLoad) : t.resultOfLoad := by
  unfold State.resultOfLoad
  rw [h]
  exact p

theorem handle_compute_state {c : Cause} {a : Axes} (h : s.stu.held = some a) :
    (handle (.compute c) s).1 = s.publish (s.result c a) := by
  simp [handle, stuCompute, h, State.result, State.publish]

theorem handle_resultOfLoad {w : Work} (h : w ≠ .compute .arrival) (p : s.resultOfLoad) : (handle w s).1.resultOfLoad := by
  cases hc : w.changesStu with
  | false => exact resultOfLoad_of_stu (by rw [(handle_leaves w s).stu hc]) p
  | true =>
    cases w
    case compute c =>
      cases c with
      | arrival => exact absurd rfl h
      | load =>
        cases ha : s.stu.held with
        | none => simpa [handle, stuCompute, ha] using p
        | some a => rw [handle_compute_state ha]; exact ⟨_, rfl, rfl⟩
    case ceiling =>
      obtain ⟨r, hr, hcause⟩ := p
      simp only [State.resultOfLoad, handle, stuCeiling, hr]
      exact ⟨_, rfl, hcause⟩
    case trip c =>
      simp only [handle, stuTrip]
      obtain ⟨r, hr, hcause⟩ := p
      split
      · next e =>
        rw [hr] at e; cases e
        split <;> exact ⟨_, rfl, hcause⟩
      · next e =>
        rw [hr] at e; cases e
        split <;> exact ⟨_, rfl, hcause⟩
      · exact ⟨r, hr, hcause⟩
    case takeResult =>
      refine resultOfLoad_of_stu ?_ p
      simp only [handle, stuTakeResult]
      repeat' split
      all_goals rfl
    case evalOne r =>
      refine resultOfLoad_of_stu ?_ p
      cases r <;> simp only [handle, stuEvaluate] <;> split <;> rfl
    case recover =>
      refine resultOfLoad_of_stu ?_ p
      simp only [handle, stuRecover]
      repeat' split
      all_goals rfl
    case reload => exact resultOfLoad_of_stu (by simp only [handle, stuReload, stuItem]; split <;> rfl) p
    case tankReport => exact resultOfLoad_of_stu (by simp only [handle, stuTankReport, stuItem]; split <;> rfl) p
    case ask r q =>
      refine resultOfLoad_of_stu ?_ p
      cases r <;> simp only [handle, stuAsk, stuEvaluate] <;> split <;> rfl
    case withdraw r => exact resultOfLoad_of_stu (by cases r <;> rfl) p
    case moveStarted r =>
      refine resultOfLoad_of_stu ?_ p
      cases r <;> simp only [handle, stuMoveStarted] <;> split <;> rfl
    case sensorFault => exact resultOfLoad_of_stu (by simp only [handle, stuSensorFault]; split <;> rfl) p
    case profileTaken => exact resultOfLoad_of_stu rfl p
    all_goals cases hc

theorem run_resultOfLoad (n : Nat) {ws : List Work} (h : ∀ w ∈ ws, w ≠ .compute .arrival) (p : s.resultOfLoad) :
    (run n ws s).resultOfLoad := by
  refine run_within (P := State.resultOfLoad) (W := fun w => w ≠ .compute .arrival) (fun w u hw => handle_resultOfLoad hw)
    (fun w u _ _ v hv e => ?_) (fun u => resultOfLoad_of_stu rfl) n ws s h p
  have := List.all_eq_true.1 (handle_comesFrom w u) v hv
  rw [e] at this
  cases this

/-- A computation that a load item's change starts, with the averages held, leaves a result of that cause. -/
theorem cascade_compute_load (h : s.stu.held.isSome = true) : (cascade [.compute .load] s).resultOfLoad := by
  obtain ⟨a, ha⟩ := Option.isSome_iff_exists.1 h
  rw [cascade_cons, List.append_nil]
  refine run_resultOfLoad _ (fun w hw e => ?_) ?_
  · have := List.all_eq_true.1 (handle_comesFrom (.compute .load) s) w hw
    rw [e] at this
    cases this
  · rw [handle_compute_state ha]
    exact ⟨_, rfl, rfl⟩

/-! ### A command taken and its answer (R201, R202) -/

section Command

variable {kind : Nat} {tag : Byte} {payload : List Byte} {inMode : State → Bool} {l : Bool}
  {body : State → Except Reason Accepted}

/-- A command that passes its tests: its own change, its hand-offs, its reply. -/
theorem command_ok {a : Accepted} (hp : s.powered = true) (ht : s.takes ⟨BitVec.ofNat 8 kind, tag, payload⟩ = true)
    (hm : inMode (takeFrame ⟨BitVec.ofNat 8 kind, tag, payload⟩ s) = true) (hl : l = true)
    (hb : body (takeFrame ⟨BitVec.ofNat 8 kind, tag, payload⟩ s) = .ok a) :
    command kind tag payload inMode l body s =
      .next ((cascade a.2.1 a.1).replied ⟨BitVec.ofNat 8 kind, tag, payload⟩ (a.2.2 (cascade a.2.1 a.1))) := by
  rw [command_eq s hp ht, answer_ok _ _ hm hl hb]
  rfl

/-- A command that its own tests refuse. -/
theorem command_refused {r : Reason} (hp : s.powered = true) (ht : s.takes ⟨BitVec.ofNat 8 kind, tag, payload⟩ = true)
    (hm : inMode (takeFrame ⟨BitVec.ofNat 8 kind, tag, payload⟩ s) = true) (hl : l = true)
    (hb : body (takeFrame ⟨BitVec.ofNat 8 kind, tag, payload⟩ s) = .error r) :
    command kind tag payload inMode l body s =
      .next ((takeFrame ⟨BitVec.ofNat 8 kind, tag, payload⟩ s).refusedWith ⟨BitVec.ofNat 8 kind, tag, payload⟩ r) := by
  rw [command_eq s hp ht, answer_error _ _ hm hl hb]
  rfl

end Command

theorem takeFrame_inIdlePass (f : Frame) (h : s.mode = .idle ∨ s.mode = .pass) : (takeFrame f s).inIdlePass = true := by
  simpa [State.inIdlePass] using h

theorem takeFrame_inIdle (f : Frame) (h : s.mode = .idle) : (takeFrame f s).inIdle = true := by
  simpa [State.inIdle] using h

/-! ### SET_PAYLOAD (R7, R43) -/

theorem payloadItem_eq (m x y h : Int) : payloadItem m x y h =
    ⟨max 0 (min 3000 m), max (-3000) (min 3000 x), max (-3000) (min 3000 y), max 0 (min 3000 h)⟩ := by
  simp only [payloadItem, clampInt_eq (show (0 : Int) ≤ 3000 by decide), clampInt_eq (show (-3000 : Int) ≤ 3000 by decide)]

/-- SET_PAYLOAD with its four fields: the new PAYLOAD item, a computation when it differs, the reply (R43). -/
def State.payloadTaken (s : State) (m x y h : Int) : Accepted :=
  let item := payloadItem m x y h
  (s.setLoad { s.stu.load with payload := item }, if item = s.stu.load.payload then [] else [.compute .load],
    fun t => .setPayload t.stu.load.payload (item.m != m) (item.x != x) (item.y != y) (item.h != h) t.sEff t.stu.band)

theorem exec_setPayload {tag m1 m0 x1 x0 y1 y0 h1 h0 : Byte} (hp : s.powered = true) (hm : s.mode = .idle ∨ s.mode = .pass)
    (ht : s.takes ⟨0x11#8, tag, [m1, m0, x1, x0, y1, y0, h1, h0]⟩ = true) :
    let f : Frame := ⟨0x11#8, tag, [m1, m0, x1, x0, y1, y0, h1, h0]⟩
    let a := (takeFrame f s).payloadTaken (signed16 (bigEndian [m1, m0])) (signed16 (bigEndian [x1, x0]))
      (signed16 (bigEndian [y1, y0])) (signed16 (bigEndian [h1, h0]))
    exec (.setPayload tag [m1, m0, x1, x0, y1, y0, h1, h0]) s =
      .next ((cascade a.2.1 a.1).replied f (a.2.2 (cascade a.2.1 a.1))) := by
  simp only [exec, execSetPayload]
  exact command_ok (kind := 0x11) (a := State.payloadTaken ..) hp ht (takeFrame_inIdlePass _ hm) rfl rfl

section PayloadTaken

variable {m x y h : Int}

theorem payloadTaken_plain : plain (s.payloadTaken m x y h).2.1 = true := by
  simp only [State.payloadTaken]
  split <;> rfl

theorem payloadTaken_reply {t : State} (ht : t.stu.load.payload = payloadItem m x y h) :
    (s.payloadTaken m x y h).2.2 t = .setPayload (payloadItem m x y h) ((payloadItem m x y h).m != m)
      ((payloadItem m x y h).x != x) ((payloadItem m x y h).y != y) ((payloadItem m x y h).h != h) t.sEff t.stu.band := by
  simp only [State.payloadTaken, ht]

/-- The item that is held already leaves the state as it is and hands nothing on. -/
theorem payloadTaken_same (e : payloadItem m x y h = s.stu.load.payload) :
    (s.payloadTaken m x y h).1 = s ∧ (s.payloadTaken m x y h).2.1 = [] := by
  simp only [State.payloadTaken, e, if_true, and_true]
  rfl

theorem payloadTaken_changed (e : payloadItem m x y h ≠ s.stu.load.payload) :
    (s.payloadTaken m x y h).2.1 = [.compute .load] := by
  simp only [State.payloadTaken, if_neg e]

theorem payloadTaken_held : (s.payloadTaken m x y h).1.stu.held = s.stu.held := rfl

end PayloadTaken

/-- Settles O15: with the item held already there are no hand-offs; otherwise they are those of a computation at a load item's
change, which leave its result. -/
theorem setPayloadClamps : Obligations.SetPayloadClamps := by
  intro tag m1 m0 x1 x0 y1 y0 h1 h0 s hp hm p f ht u m x y h item
  have hi : item = payloadItem m x y h := (payloadItem_eq m x y h).symm
  have us : u.stu = s.stu := takeFrame_stu f s
  let a := u.payloadTaken m x y h
  let v := cascade a.2.1 a.1
  have e : exec (.setPayload tag p) s = .next (v.replied f (a.2.2 v)) := exec_setPayload hp hm ht
  have base : SameBase a.1 v := cascade_base _ _ payloadTaken_plain
  have pay : v.stu.load.payload = payloadItem m x y h := base.payload
  have reply := payloadTaken_reply (s := u) pay
  rw [reply] at e
  rw [hi]
  refine ⟨fun same => ?_, _, e, pay, ?_, ?_, fun changed held => ?_⟩
  · obtain ⟨hs, hw⟩ := payloadTaken_same (s := u) (same.trans (by rw [us]))
    have ev : v = u := by simp only [v, a, hs, hw, cascade_nil]
    rw [e, ev, State.sEff, State.sEff, us]
  · refine .trans ?_ (base.trans (by constructor <;> rfl))
    rw [← us]
    constructor <;> rfl
  · exact List.mem_append_right _ (List.mem_singleton.2 rfl)
  · have hw : a.2.1 = [.compute .load] := payloadTaken_changed (s := u) (by rw [us]; exact changed)
    have result : (cascade [.compute .load] a.1).resultOfLoad := cascade_compute_load (by rw [payloadTaken_held, us]; exact held)
    rw [← hw] at result
    exact result

end Sys2Proof.Machine

/-! PROOFS. PROFILE_WRITE and its completion (R9, R207). -/

namespace Sys2Proof.Machine

variable {s : State}

/-! ### The frame of the hand-offs, the recovery expiry among them -/

theorem SameBase.rpc {t : State} (h : SameBase s t) : t.odu.rpc = s.odu.rpc := by
  simpa using congrArg Odu.rpc h.odu

theorem SameBase.prescaler {t : State} (h : SameBase s t) : t.odu.prescaler = s.odu.prescaler := by
  simpa using congrArg Odu.prescaler h.odu

theorem recover_base (s : State) : SameBase s (handle .recover s).1 := by
  simp only [handle, stuRecover]
  repeat' split
  all_goals constructor <;> rfl

theorem recover_plain (s : State) : plain (handle .recover s).2 = true := by
  simp only [handle, stuRecover]
  repeat' split
  all_goals rfl

/-- The hand-offs between blocks and a recovery expiry keep the frame. -/
theorem run_base_recover (n : Nat) {ws : List Work} (h : ∀ w ∈ ws, plain [w] = true ∨ w = .recover) (s : State) :
    SameBase s (run n ws s) := by
  refine run_within (P := SameBase s) (W := fun w => plain [w] = true ∨ w = .recover) (fun w u hw p => ?_)
    (fun w u hw _ => ?_) (fun u p => p.trans (by constructor <;> rfl)) n ws s h (.refl s)
  · rcases hw with hw | rfl
    · exact p.trans (handle_base w u hw)
    · exact p.trans (recover_base u)
  · rcases hw with hw | rfl
    · exact fun v hv => .inl ((plain_iff _).1 (handle_plain w u hw) v hv)
    · exact fun v hv => .inl ((plain_iff _).1 (recover_plain u) v hv)

/-- The state right after a profile has been taken up: the profile, the prescaler, the load items from their sources. -/
def State.taken (s : State) (p : Profile) (n : Bool) : State := (stuProfile p n s).1

theorem profileTaken_works {p : Profile} {n : Bool} : ∀ w ∈ (handle (.profileTaken p n) s).2, plain [w] = true ∨ w = .recover := by
  simp only [handle, stuProfile]
  intro w hw
  rcases List.mem_append.1 hw with hw | hw
  · refine .inl ((plain_iff _).1 ?_ w hw)
    repeat' split
    all_goals rfl
  · exact .inr (List.mem_singleton.1 hw)

/-- A profile taken up with the hand-offs after it: the frame is that of the state right after. -/
theorem cascade_profileTaken_base (p : Profile) (n : Bool) {ws : List Work} (h : plain ws = true) :
    SameBase (s.taken p n) (cascade (.profileTaken p n :: ws) s) := by
  rw [cascade_cons]
  refine run_base_recover _ (fun w hw => ?_) (s.taken p n)
  rcases List.mem_append.1 hw with hw | hw
  · exact profileTaken_works w hw
  · exact .inl ((plain_iff ws).1 h w hw)

/-! ### PROFILE_WRITE -/

/-- A free store begins a profile write that nothing stands before (R175, log 15). -/
theorem cascade_arbiter_profile {image : List Byte} {crc : Nat} (o : s.lgs.op = none) (w : s.lgs.waiting = []) :
    cascade [.arbiter] { s with lgs := { s.lgs with waiting := s.lgs.waiting ++ [.profile image crc] } } =
      { s with lgs := { s.lgs with op := some (.profile image crc false) } } := by
  have e : handle .arbiter { s with lgs := { s.lgs with waiting := s.lgs.waiting ++ [.profile image crc] } } =
      ({ s with lgs := { s.lgs with op := some (.profile image crc false) } }, []) := by
    simp only [handle, lgsArbiter, o, w, List.nil_append, takeFirst, State.canBegin, if_true]
  rw [cascade_eq, run_leaf e, run_nil]

theorem profilePending_idle {l : Lgs} (o : l.op = none) (w : l.waiting = []) : l.profilePending = false := by
  simp [Lgs.profilePending, o, w]

section ProfileWrite

variable {tag : Byte} {bytes : List Byte}

/-- What PROFILE_WRITE does with a valid image while no other write is pending. -/
def State.profileAsked (s : State) (bytes : List Byte) : Accepted :=
  ({ s with lgs := { s.lgs with waiting := s.lgs.waiting ++ [.profile bytes (crc16 bytes)] } }, [.arbiter],
    fun _ => .profileWrite (crc16 bytes))

variable (hp : s.powered = true) (hm : s.mode = .idle) (hl : bytes.length = 110) (ht : s.takes ⟨0x08#8, tag, bytes⟩ = true)

include hp hm hl ht

theorem exec_profileWrite_invalid (hv : Profile.ofImage bytes = none) :
    exec (.profileWrite tag bytes) s =
      .next ((takeFrame ⟨0x08#8, tag, bytes⟩ s).refusedWith ⟨0x08#8, tag, bytes⟩ .outOfRange) := by
  simp only [exec, execProfileWrite]
  exact command_refused (kind := 0x08) hp ht (takeFrame_inIdle _ hm) (by simp [hl]) (if_pos (by simp [hv]))

theorem exec_profileWrite_busy (hv : Profile.ofImage bytes ≠ none) (hb : s.lgs.profilePending = true) :
    exec (.profileWrite tag bytes) s =
      .next ((takeFrame ⟨0x08#8, tag, bytes⟩ s).refusedWith ⟨0x08#8, tag, bytes⟩ .busy) := by
  simp only [exec, execProfileWrite]
  exact command_refused (kind := 0x08) hp ht (takeFrame_inIdle _ hm) (by simp [hl])
    ((if_neg (by simpa using hv)).trans (if_pos (by rw [takeFrame_lgs]; exact hb)))

theorem exec_profileWrite_ok (hv : Profile.ofImage bytes ≠ none) (hb : s.lgs.profilePending = false) :
    let a := (takeFrame ⟨0x08#8, tag, bytes⟩ s).profileAsked bytes
    exec (.profileWrite tag bytes) s = .next ((cascade a.2.1 a.1).replied ⟨0x08#8, tag, bytes⟩ (a.2.2 (cascade a.2.1 a.1))) := by
  simp only [exec, execProfileWrite]
  exact command_ok (kind := 0x08) (a := State.profileAsked ..) hp ht (takeFrame_inIdle _ hm) (by simp [hl])
    ((if_neg (by simpa using hv)).trans (if_neg (by rw [takeFrame_lgs, hb]; decide)))

end ProfileWrite

/-! ### PROFILE_WRITE_COMPLETE -/

theorem exec_profileWriteComplete {ok : Bool} {image : List Byte} {crc : Nat} {cut : Bool} (hp : s.powered = true)
    (ho : s.lgs.op = some (.profile image crc cut)) :
    exec (.profileWriteComplete ok) s =
      .next (cascade (s.profileWritten image crc ok).2 (s.profileWritten image crc ok).1).finish := by
  simp only [exec, execProfileWriteComplete]
  rw [live_on hp]
  simp only [ho]

/-- The completion of a profile write in STARTUP stores the image, and no profile is taken up. -/
theorem profileWritten_startup {image : List Byte} {crc : Nat} {ok : Bool} (hm : s.mode = .startup) :
    SameBase (s.profileWritten image crc ok).1 (cascade (s.profileWritten image crc ok).2 (s.profileWritten image crc ok).1) := by
  have w : (s.profileWritten image crc ok).2 = [.arbiter] := by simp [State.profileWritten, hm]
  rw [w]
  exact cascade_base _ _ rfl

theorem profileWritten_live {image : List Byte} {crc : Nat} {ok : Bool} (hm : s.mode ≠ .startup) :
    let p := (if ok then StoredImage.whole image crc else .broken).found
    SameBase ((s.profileWritten image crc ok).1.taken p.1 p.2)
      (cascade (s.profileWritten image crc ok).2 (s.profileWritten image crc ok).1) := by
  intro p
  have w : (s.profileWritten image crc ok).2 = [.profileTaken p.1 p.2, .arbiter] := by simp [State.profileWritten, hm, p]
  rw [w]
  exact cascade_profileTaken_base _ _ rfl

/-- The store and the result of the last operation after a completed profile write, in every mode. -/
theorem profileWritten_stored {image : List Byte} {crc : Nat} {ok : Bool} :
    let t := cascade (s.profileWritten image crc ok).2 (s.profileWritten image crc ok).1
    t.store = { s.store with image := if ok then .whole image crc else .broken } ∧
      t.lgs.lastResult = some ⟨.profile, none, ok⟩ := by
  by_cases hm : s.mode = .startup
  · have b := profileWritten_startup (image := image) (crc := crc) (ok := ok) hm
    exact ⟨b.store, b.lastResult⟩
  · have b := profileWritten_live (image := image) (crc := crc) (ok := ok) hm
    exact ⟨b.store, b.lastResult⟩

/-- Settles O46: the tests in their order; at the completion the frame of the state in which the profile has been taken up. -/
theorem profileWrites : Obligations.ProfileWrites := by
  refine ⟨?asked, ?completed⟩
  case asked =>
    intro tag bytes s hp hm hl f ht u
    refine ⟨exec_profileWrite_invalid hp hm hl ht, exec_profileWrite_busy hp hm hl ht, fun hv ho hw => ?_⟩
    have ul : u.lgs = s.lgs := takeFrame_lgs f s
    have begun : cascade (u.profileAsked bytes).2.1 (u.profileAsked bytes).1 = _ :=
      cascade_arbiter_profile (s := u) (by rw [ul, ho]) (by rw [ul, hw])
    rw [exec_profileWrite_ok hp hm hl ht hv (profilePending_idle ho hw), begun, ul]
    rfl
  case completed =>
    intro s image crc cut hp ho
    refine ⟨⟨_, exec_profileWriteComplete hp ho, profileWritten_stored.1, profileWritten_stored.2, fun hm => ?_,
      fun hm p hc hi => ?_⟩, ⟨_, exec_profileWriteComplete hp ho, profileWritten_stored.1, profileWritten_stored.2,
      fun hm => ?_⟩⟩
    · have b := profileWritten_startup (image := image) (crc := crc) (ok := true) hm
      exact ⟨b.profile, b.noProfile⟩
    · have b := profileWritten_live (image := image) (crc := crc) (ok := true) hm
      have found : (StoredImage.whole image crc).found = (p, false) := by
        simp [StoredImage.found, StoredImage.profile, hc, hi]
      simp only [if_true, found] at b
      exact ⟨b.profile, b.noProfile, b.prescaler, b.rpc⟩
    · have b := profileWritten_live (image := image) (crc := crc) (ok := false) hm
      exact ⟨b.profile, b.noProfile⟩

end Sys2Proof.Machine

/-! PROOFS. What the hand-offs of a step never bring about: a pass that runs, a tool selected, simulated motion, STARTUP. -/

namespace Sys2Proof.Machine

variable {s : State}

/-! ### Mode and pass -/

/-- From `s` to `t` no pass starts to run, no tool is selected, no motion begins to be simulated, STARTUP is not entered. -/
structure OpensNothing (s t : State) : Prop where
  running : s.running = false → t.running = false
  selected : ∀ k, s.selected k = false → t.selected k = false
  simMotion : s.simMotion = false → t.simMotion = false
  startup : s.mode ≠ .startup → t.mode ≠ .startup

theorem OpensNothing.of_psc {t : State} (h : t.psc = s.psc) : OpensNothing s t where
  running := by simp only [State.running, State.inPass, h]; exact id
  selected := by simp only [State.selected, State.inPass, h]; exact fun _ => id
  simMotion := by simp only [State.simMotion, State.rehearsal, State.inPass, h]; exact id
  startup := by simp only [State.mode, h]; exact id

/-- Outside PASS nothing runs, nothing is selected and nothing simulated. -/
theorem OpensNothing.of_mode {t : State} (h : t.mode = .idle ∨ t.mode = .lockout) : OpensNothing s t := by
  have n : t.inPass = false := by
    rcases h with h | h <;> simp only [State.mode] at h <;> rw [State.inPass, h] <;> rfl
  constructor
  · simp [State.running, n]
  · simp [State.selected, n]
  · simp [State.simMotion, State.rehearsal, n]
  · intro _ e; rw [e] at h; rcases h with h | h <;> cases h

/-- A pass record with the same tools and rehearsal code, not newly running. -/
theorem OpensNothing.of_pass {p q : PassRecord} (h : s.psc.pass = some p) (ht : q.tools = p.tools) (hr : q.rehearsal = p.rehearsal)
    (hs : p.suspension.isNone = false → q.suspension.isNone = false) : OpensNothing s (s.setPass q) where
  running := by
    simp only [State.running, State.inPass, State.setPass, h, Option.any_some, Bool.and_eq_false_iff]
    exact Or.imp_right hs
  selected := by simp only [State.selected, State.inPass, State.setPass, h, Option.any_some, ht]; exact fun _ => id
  simMotion := by simp only [State.simMotion, State.rehearsal, State.inPass, State.setPass, h, Option.map_some, hr]; exact id
  startup := id

theorem OpensNothing.of_noPass {l : Option LastPass} : OpensNothing s { s with psc := { s.psc with pass := none, lastPass := l } } where
  running := by simp [State.running]
  selected := by simp [State.selected]
  simMotion := by simp [State.simMotion, State.rehearsal]
  startup := id

theorem handle_opensNothing (w : Work) (s : State) : OpensNothing s (handle w s).1 := by
  cases hc : w.changesPsc with
  | false => exact .of_psc ((handle_leaves w s).psc hc)
  | true =>
    cases w
    case enterLockout => exact .of_mode (.inr rfl)
    case startEnd =>
      refine .of_mode ?_
      cases h : s.cdu.lockoutPending with
      | true => exact .inr (if_pos h)
      | false => exact .inl (if_neg (by rw [h]; decide))
    case suspend c =>
      simp only [handle, pscSuspend]
      split
      · next p _ hp =>
        split
        · exact .of_pass hp rfl rfl fun _ => rfl
        · split
          · exact .of_pass hp rfl rfl fun _ => rfl
          · exact .of_psc rfl
      · exact .of_psc rfl
    case passEnd r =>
      simp only [handle, pscEnd]
      split
      · exact .of_noPass
      · exact .of_psc rfl
    case dropSprayFields =>
      simp only [handle, pscDropFields]
      split
      · next p hp => exact .of_pass hp rfl rfl id
      · exact .of_psc rfl
    all_goals cases hc

end Sys2Proof.Machine

/-! PROOFS. The arm's moves and what they hand on while there is nothing to drive out (R117, R121 to R123, R129). -/

namespace Sys2Proof.Machine

variable {s : State}

/-! ### The rows of the arm -/

/-- The physical arm in `a`, without a deadline. -/
def State.withArm (s : State) (a : ArmState) : State := { s with wsq := { s.wsq with arm := some a, deadline := none } }

/-- The state with the level of the OUT switch. -/
def State.pinExt (s : State) (b : Bool) : State := { s with pins := { s.pins with armExt := b } }

/-- The state with the level of the IN switch. -/
def State.pinRet (s : State) (b : Bool) : State := { s with pins := { s.pins with armRet := b } }

theorem armIsDrivenIn_off {a : Option ArmState} (r : a ≠ some .retracting) (st : a ≠ some .stalled) : armIsDrivenIn a = false := by
  rcases a with _ | a
  · rfl
  · cases a
    case retracting => exact absurd rfl r
    case stalled => exact absurd rfl st
    all_goals rfl

theorem exec_armExt_level {b : Bool} (h : s.powered = true)
    (c : b = false ∨ s.armTakes = false ∨ s.wsq.arm ≠ some .extending) : exec (.armExt b) s = .next (s.pinExt b).finish := by
  simp only [exec, execArmExt]
  have e : (b && s.armTakes && s.wsq.arm == some .extending) = false := by rcases c with c | c | c <;> simp [c]
  exact (live_on (s := s.pinExt b) h).trans
    (congrArg (fun u : State => Host.Outcome.next u.finish) (if_neg (Bool.not_eq_true _ ▸ e)))

theorem exec_armRet_level {b : Bool} (h : s.powered = true)
    (c : b = false ∨ s.armTakes = false ∨ (s.wsq.arm ≠ some .retracting ∧ s.wsq.arm ≠ some .stalled)) :
    exec (.armRet b) s = .next (s.pinRet b).finish := by
  simp only [exec, execArmRet]
  have e : (b && s.armTakes && armIsDrivenIn s.wsq.arm) = false := by
    rcases c with c | c | ⟨c, d⟩
    · simp [c]
    · simp [c]
    · rw [armIsDrivenIn_off c d, Bool.and_false]
  exact (live_on (s := s.pinRet b) h).trans
    (congrArg (fun u : State => Host.Outcome.next u.finish) (if_neg (Bool.not_eq_true _ ▸ e)))

theorem exec_armExt_ends (h : s.powered = true) (t : s.armTakes = true) (a : s.wsq.arm = some .extending) :
    exec (.armExt true) s = .next (cascade [.arm .extended] (s.pinExt true)).finish := by
  simp only [exec, execArmExt]
  have e : (true && s.armTakes && s.wsq.arm == some .extending) = true := by simp [t, a]
  exact (live_on (s := s.pinExt true) h).trans (congrArg (fun u : State => Host.Outcome.next u.finish) (if_pos e))

theorem exec_armRet_ends (h : s.powered = true) (t : s.armTakes = true)
    (a : s.wsq.arm = some .retracting ∨ s.wsq.arm = some .stalled) :
    exec (.armRet true) s = .next (cascade [.arm .retracted] (s.pinRet true)).finish := by
  simp only [exec, execArmRet]
  have e : (true && s.armTakes && armIsDrivenIn s.wsq.arm) = true := by rcases a with a | a <;> simp [t, a, armIsDrivenIn]
  exact (live_on (s := s.pinRet true) h).trans (congrArg (fun u : State => Host.Outcome.next u.finish) (if_pos e))

theorem exec_armDeadlineExpiry {d : Nat} (h : s.powered = true) (hd : s.wsq.deadline = some d) (t : s.armTakes = true)
    (a : s.wsq.arm = some .extending ∨ s.wsq.arm = some .retracting) :
    exec .armDeadlineExpiry s = .next (cascade [.arm .stalled] (s.advance d)).finish := by
  simp only [exec, execArmDeadlineExpiry]
  rw [live_on h]
  simp only [hd]
  exact congrArg (fun u : State => Host.Outcome.next u.finish) (if_pos (by rcases a with a | a <;> simp [t, a]))

theorem exec_simArmMoveDone {d : Nat} (h : s.powered = true) (hd : s.wsq.simDue = some d) (m : s.simMotion = true) :
    exec .simArmMoveDone s =
      .next (cascade [.arm (if s.wsq.simArm == .extending then .extended else .retracted)] (s.advance d)).finish := by
  simp only [exec, execSimArmMoveDone]
  rw [live_on h]
  simp only [hd]
  exact congrArg (fun u : State => Host.Outcome.next u.finish) (if_pos m)

/-! ### The arm's hand-offs -/

theorem armTakes_iff : s.armTakes = true ↔ s.drives = true ∧ s.simMotion = false := by
  simp [State.armTakes]

theorem armNow_physical (m : s.simMotion = false) : s.armNow = s.wsq.arm := if_neg (by rw [m]; decide)

theorem handle_arm_extended (t : s.armTakes = true) : handle (.arm .extended) s = (s.withArm .extended, [.reload .weeder]) := by
  obtain ⟨d, m⟩ := armTakes_iff.1 t
  simp [handle, wsqArm, d, m, State.withArm]

theorem handle_arm_retracted (t : s.armTakes = true) :
    handle (.arm .retracted) s = (s.withArm .retracted, [.reload .weeder, .drive]) := by
  obtain ⟨d, m⟩ := armTakes_iff.1 t
  simp [handle, wsqArm, d, m, State.withArm]

theorem handle_arm_stalled (t : s.armTakes = true) (r : s.pins.armRet = false) : handle (.arm .stalled) s =
    (s.withArm .stalled, [.reload .weeder, .weederWithheld true,
      .occur .armTimeout (.minor (.arm (s.wsq.arm.getD .stalled) s.odu.rpc s.profile.armTime))]) := by
  obtain ⟨d, m⟩ := armTakes_iff.1 t
  simp [handle, wsqArm, d, m, r, State.withArm]

theorem itemNow_weeder_out (h : s.wsq.arm ≠ some .retracted) : s.itemNow .weeder = itemExtended s.profile :=
  if_pos (by simp [h])

theorem itemNow_weeder_in (h : s.wsq.arm = some .retracted) (n : s.stu.weederAdm ≠ some .granted) :
    s.itemNow .weeder = itemRetracted s.profile :=
  if_neg (by simp [h, n])

/-! ### The drive condition with nothing to drive out -/

theorem driveTerms_fail (h : s.running = false ∨ s.selected .weeder = false ∨ s.permits .weeder = false) :
    s.driveTerms.none = false := by
  rcases h with h | h | h <;> simp [State.driveTerms, DriveTerms.none, h]

theorem onlyPermission_off (h : s.running = false ∨ s.selected .weeder = false ∨ s.permission .weeder ≠ some .awaitConfirm) :
    (s.driveTerms.onlyPermission && s.permission .weeder == some .awaitConfirm) = false := by
  rcases h with h | h | h <;> simp [State.driveTerms, DriveTerms.onlyPermission, h]

/-- No record, the arm not out: what a failing drive condition hands on is at most a query for confirmation. -/
theorem handle_drive_fails (w : s.stu.weederAdm = none) (o : armIsOut s.armNow = false) (t : s.driveTerms.none = false) :
    handle .drive s = (s, []) ∨ handle .drive s = (s, [.actQuery .weeder]) := by
  simp only [handle, wsqDrive, w, o, t]
  cases s.drives <;> simp
  tauto

/-- No record, the arm not out, a term besides the permission failing: the drive condition has no effect (R117). -/
theorem handle_drive_idle (w : s.stu.weederAdm = none) (o : armIsOut s.armNow = false)
    (t : s.driveTerms.none = false)
    (q : (s.driveTerms.onlyPermission && s.permission .weeder == some .awaitConfirm) = false) :
    handle .drive s = (s, []) := by
  simp only [handle, wsqDrive, w, o, t, q]
  cases s.drives <;> rfl

end Sys2Proof.Machine

/-! PROOFS. How the admission records, the WEEDER item and the weeder's permission change. -/

namespace Sys2Proof.Machine

variable {s : State}

/-! ### What keeps the weeder's record absent and its permission closed -/

/-- A trip event has no effect, or it is a trip (R30). -/
theorem handle_trip_cases (c : TripCause) : handle (.trip c) s = (s, []) ∨ ∃ r k n, s.stu.published = some r ∧
    s.stu.band.stops = false ∧ handle (.trip c) s = ({ s.tripped c r with freeCount := n }, s.tripWorks c r k) := by
  cases hp : s.stu.published with
  | none => left; simp only [handle, stuTrip]; split <;> simp_all
  | some r =>
    cases b : s.stu.band.stops with
    | false =>
      obtain ⟨k, n, e⟩ := handle_trip c hp b
      exact .inr ⟨r, k, n, rfl, rfl, e⟩
    | true =>
      left
      simp only [handle, stuTrip]
      split
      · next e _ => rw [e] at b; cases b
      · next e _ => rw [e] at b; cases b
      · rfl

/-- Only a request and an evaluation change a record of the weeder otherwise than by removing it (R23 to R26). -/
theorem handle_weederAdm_kept {w : Work} (n : ∀ p, w ≠ .ask .weeder p) (e : w ≠ .evalOne .weeder) :
    (handle w s).1.stu.weederAdm = s.stu.weederAdm ∨ (handle w s).1.stu.weederAdm = none := by
  cases hc : w.changesStu with
  | false => rw [(handle_leaves w s).stu hc]; exact .inl rfl
  | true =>
    cases w
    case ask r p =>
      cases r
      · exact absurd rfl (n p)
      · simp only [handle, stuAsk, stuEvaluate]; split <;> exact .inl rfl
    case evalOne r =>
      cases r
      · exact absurd rfl e
      · simp only [handle, stuEvaluate]; split <;> exact .inl rfl
    case withdraw r =>
      cases r
      · exact .inr rfl
      · exact .inl rfl
    case moveStarted r =>
      cases r <;> simp only [handle, stuMoveStarted] <;> split
      · exact .inr rfl
      all_goals exact .inl rfl
    case trip c =>
      rcases handle_trip_cases (s := s) c with e | ⟨r, k, m, -, -, e⟩ <;> rw [e]
      · exact .inl rfl
      · exact .inr rfl
    case ceiling => exact .inl rfl
    case compute | takeResult | recover | reload | tankReport | sensorFault | profileTaken =>
      simp only [handle, stuCompute, stuTakeResult, stuRecover, stuReload, stuTankReport, stuItem, stuSensorFault, stuProfile]
      try repeat' split
      all_goals exact .inl rfl
    all_goals cases hc

/-- A record of the weeder is made by its request alone (R23). -/
theorem handle_weederAdm_none {w : Work} (h : s.stu.weederAdm = none) (n : ∀ p, w ≠ .ask .weeder p) :
    (handle w s).1.stu.weederAdm = none := by
  by_cases e : w = .evalOne .weeder
  · rw [e, handle_evalOne_none s (r := .weeder) h]
    exact h
  · exact (handle_weederAdm_kept n e).elim (fun k => k.trans h) id

/-- A record of the pruner is made by its request alone (R23). -/
theorem handle_prunerAdm_none {w : Work} (h : s.stu.prunerAdm = none) (n : ∀ p, w ≠ .ask .pruner p) :
    (handle w s).1.stu.prunerAdm = none := by
  cases hc : w.changesStu with
  | false => rw [(handle_leaves w s).stu hc]; exact h
  | true =>
    cases w
    case ask r p =>
      cases r
      · simp only [handle, stuAsk, stuEvaluate]; split <;> exact h
      · exact absurd rfl (n p)
    case evalOne r =>
      cases r
      · simp only [handle, stuEvaluate]; split <;> exact h
      · rw [handle_evalOne_none s (r := .pruner) (Stu.status_pruner_none h)]; exact h
    case withdraw r =>
      cases r
      · exact h
      · rfl
    case moveStarted r =>
      cases r <;> simp only [handle, stuMoveStarted] <;> split
      case pruner.isTrue => rfl
      all_goals exact h
    case trip c =>
      rcases handle_trip_cases (s := s) c with e | ⟨r, k, m, -, -, e⟩ <;> rw [e]
      · exact h
      · rfl
    case ceiling => exact h
    case compute | takeResult | recover | reload | tankReport | sensorFault | profileTaken =>
      simp only [handle, stuCompute, stuTakeResult, stuRecover, stuReload, stuTankReport, stuItem, stuSensorFault, stuProfile]
      try repeat' split
      all_goals exact h
    all_goals cases hc

/-- The WEEDER item changes by its own report alone (R1). -/
theorem handle_weederLoad {w : Work} (hp : plain [w] = true) (n : w ≠ .reload .weeder) :
    (handle w s).1.stu.load.weeder = s.stu.load.weeder := by
  cases hc : w.changesStu with
  | false => rw [(handle_leaves w s).stu hc]
  | true =>
    cases w
    case reload i =>
      cases i
      case weeder => exact absurd rfl n
      all_goals
        simp only [handle, stuReload, stuItem]
        split <;> rfl
    case ask r p => cases r <;> simp only [handle, stuAsk, stuEvaluate] <;> split <;> rfl
    case evalOne r => cases r <;> simp only [handle, stuEvaluate] <;> split <;> rfl
    case withdraw r => cases r <;> rfl
    case moveStarted r => cases r <;> simp only [handle, stuMoveStarted] <;> split <;> rfl
    case profileTaken => cases hp
    case trip c =>
      rcases handle_trip_cases (s := s) c with e | ⟨r, k, m, -, -, e⟩
      · rw [e]
      · rw [e]; rfl
    case recover => cases hp
    case ceiling => rfl
    case compute | takeResult | tankReport | sensorFault =>
      simp only [handle, stuCompute, stuTakeResult, stuTankReport, stuItem, stuSensorFault]
      repeat' split
      all_goals rfl
    all_goals cases hc

/-- The WEEDER item after its report is what its source gives. -/
theorem handle_reload_weeder : (handle (.reload .weeder) s).1.stu.load.weeder = s.itemNow .weeder := by
  simp only [handle, stuReload, stuItem]
  split
  · next h => exact h.symm
  · rfl

/-- The weeder's permission depends on its cursor's resolution and on the window. -/
theorem permits_weeder_congr {t : State} (hc : t.mpu.weeder.res = s.mpu.weeder.res) (hw : t.mpu.window = s.mpu.window) :
    t.permits .weeder = s.permits .weeder := by
  simp [State.permits, State.permission, Mpu.cursor, Mpu.bay, hc, hw]

/-- The weeder's permission changes by a cursor's moves and at the end of a pass alone (R73, R74). -/
theorem handle_permits_kept {w : Work} (m : ∀ c, w ≠ .moveCursor c) (e : ∀ c r, w ≠ .enter c r) (n : w ≠ .mapEnd) :
    (handle w s).1.permits .weeder = s.permits .weeder := by
  cases hc : w.changesMpu with
  | false => simp only [State.permits, State.permission, (handle_leaves w s).mpu hc]
  | true =>
    cases w
    case moveCursor c => exact absurd rfl (m c)
    case enter c r => exact absurd rfl (e c r)
    case mapEnd => exact absurd rfl n
    case missTest t =>
      apply permits_weeder_congr
      all_goals cases t <;> simp only [handle, mpuMissTest] <;> split <;> rfl
    case actQuery t =>
      apply permits_weeder_congr
      all_goals cases t <;> simp only [handle, mpuActQuery] <;> (repeat' split) <;> rfl
    all_goals cases hc

/-- A permission is opened by a cursor's moves alone (R74, R78). -/
theorem handle_permits {w : Work} (h : s.permits .weeder = false) (m : ∀ c, w ≠ .moveCursor c) (e : ∀ c r, w ≠ .enter c r) :
    (handle w s).1.permits .weeder = false := by
  by_cases n : w = .mapEnd
  · rw [n]; rfl
  · rw [handle_permits_kept m e n, h]

end Sys2Proof.Machine

/-! PROOFS. An arm that has come in with nothing to drive out stays in through a step's hand-offs (R4, R117). -/

namespace Sys2Proof.Machine

variable {s : State}

/-! ### The arm in, nothing to drive out -/

/-- The physical arm in, without a deadline, a record or anything to drive out. -/
structure ArmIn (s : State) : Prop where
  arm : s.wsq.arm = some .retracted ∧ s.wsq.deadline = none
  adm : s.stu.weederAdm = none
  physical : s.simMotion = false
  live : s.mode ≠ .startup
  fails : s.running = false ∨ s.selected .weeder = false ∨ s.permits .weeder = false

theorem ArmIn.armNow_in (h : ArmIn s) : armIsOut s.armNow = false := by
  rw [armNow_physical h.physical, h.arm.1]
  rfl

/-- The hand-offs that could end `ArmIn`: the arm's moves, the request, what opens a permission, what a row begins with. -/
def Work.keepsArmIn : Work → Bool
  | .arm _ | .ask .weeder _ | .rpcChanged _ | .mapMove | .moveCursor _ | .enter _ _ | .startEnd | .profileTaken _ _ | .recover
  | .frameIn _ => false
  | _ => true

theorem Work.keepsArmIn_plain {w : Work} (h : w.keepsArmIn = true) : plain [w] = true := by
  cases w <;> first | rfl | cases h

theorem ArmIn.handle {w : Work} (k : w.keepsArmIn = true) (h : ArmIn s) : ArmIn (handle w s).1 := by
  have o := handle_opensNothing w s
  refine ⟨?_, handle_weederAdm_none h.adm ?_, o.simMotion h.physical, o.startup h.live, ?_⟩
  · have a : w.changesArm = false := by
      cases w <;> first | rfl | cases k
    obtain ⟨ha, hd⟩ := (handle_leaves w s).arm a
    exact ⟨ha.trans h.arm.1, hd.trans h.arm.2⟩
  · rintro p rfl; cases k
  · refine h.fails.imp o.running (.imp (o.selected _) fun p => handle_permits p ?_ ?_)
    · rintro c rfl; cases k
    · rintro c r rfl; cases k

/-- With the arm in and nothing to drive out, the drive condition asks for nothing but a confirmation. -/
theorem ArmIn.drive_keeps (h : ArmIn s) : ∀ v ∈ (wsqDrive s).2, v.keepsArmIn = true := by
  rcases handle_drive_fails h.adm h.armNow_in (driveTerms_fail h.fails) with e | e
  all_goals
    have e : wsqDrive s = _ := e
    rw [e]
    simp [Work.keepsArmIn]

/-- Where a hand-off that could end `ArmIn` comes from: the drive condition, an admission, the end of a pass or of STARTUP. -/
theorem Work.keepsArmIn_from {v w : Work} (c : v.comesFrom w = true) (p : plain [v] = true) (k : w.keepsArmIn = true) :
    v.keepsArmIn = true ∨ w = .drive ∨ w = .permission .weeder ∨ w = .answer .weeder .admitted ∨ w = .weederEnd ∨
      w = .startEndTest := by
  cases v
  case arm st =>
    simp only [Work.comesFrom] at c
    split at c <;> simp_all [Work.keepsArmIn]
  case ask r q =>
    cases r
    · simp only [Work.comesFrom] at c
      split at c <;> simp_all
    · exact .inl rfl
  case startEnd => cases w <;> simp_all [Work.comesFrom]
  case mapMove | moveCursor | enter => cases w <;> simp_all [Work.comesFrom, Work.keepsArmIn]
  case rpcChanged => cases c
  case profileTaken | recover | frameIn => cases p
  all_goals exact .inl rfl

/-- An admission told to a weeder without a record has no effect (R118). -/
theorem handle_admitted_none (h : s.stu.weederAdm ≠ some .granted) : handle (.answer .weeder .admitted) s = (s, []) := by
  simp [handle, wsqAnswer, h]

/-- Past STARTUP its end is not tested for again (R206). -/
theorem handle_startEndTest_live (h : s.mode ≠ .startup) : handle .startEndTest s = (s, []) := by
  have m : (s.mode == .startup) = false := beq_eq_false_iff_ne.2 h
  simp [handle, mlkStartEndTest, m]

theorem ArmIn.works {w : Work} (k : w.keepsArmIn = true) (h : ArmIn s) : ∀ v ∈ (Machine.handle w s).2, v.keepsArmIn = true := by
  intro v hv
  have c := List.all_eq_true.1 (handle_comesFrom w s) v hv
  have p := (plain_iff _).1 (handle_plain w s (Work.keepsArmIn_plain k)) v hv
  rcases Work.keepsArmIn_from c p k with ok | rfl | rfl | rfl | rfl | rfl
  · exact ok
  · exact h.drive_keeps v hv
  · exact h.drive_keeps v hv
  · rw [handle_admitted_none (by rw [h.adm]; decide)] at hv
    cases hv
  · have e : (Machine.handle .weederEnd s).2 = [.withdraw .weeder] := by
      simp [Machine.handle, wsqEnd, h.arm.1, armIsOut]
    rw [e, List.mem_singleton] at hv
    rw [hv]
    rfl
  · rw [handle_startEndTest_live h.live] at hv
    cases hv

/-- The hand-offs of a step leave the arm in, and the WEEDER item RETRACTED once it has been reported (R4). -/
theorem run_armIn {n : Nat} {ws : List Work} (k : ∀ w ∈ ws, w.keepsArmIn = true) (h : ArmIn s)
    (l : s.stu.load.weeder = itemRetracted s.profile) :
    ArmIn (run n ws s) ∧ (run n ws s).stu.load.weeder = itemRetracted s.profile := by
  have step : ∀ (w : Work) (u : State), w.keepsArmIn = true →
      (ArmIn u ∧ u.profile = s.profile ∧ u.stu.load.weeder = itemRetracted s.profile) →
      ArmIn (Machine.handle w u).1 ∧ (Machine.handle w u).1.profile = s.profile ∧
        (Machine.handle w u).1.stu.load.weeder = itemRetracted s.profile := by
    intro w u k ⟨hu, hp, hl⟩
    have pl := Work.keepsArmIn_plain k
    refine ⟨hu.handle k, (handle_base w u pl).profile.trans hp, ?_⟩
    by_cases e : w = .reload .weeder
    · subst e
      rw [handle_reload_weeder, itemNow_weeder_in hu.arm.1 (by rw [hu.adm]; decide), hp]
    · rw [handle_weederLoad pl e, hl]
  have r := run_within (P := fun u => ArmIn u ∧ u.profile = s.profile ∧ u.stu.load.weeder = itemRetracted s.profile)
    (W := fun w => w.keepsArmIn = true) step (fun w u k hu => hu.1.works k)
    (fun u ⟨hu, hp, hl⟩ => ⟨⟨hu.arm, hu.adm, hu.physical, hu.live, hu.fails⟩, hp, hl⟩) n ws s k ⟨h, rfl, l⟩
  exact ⟨r.1, r.2.2⟩

end Sys2Proof.Machine

/-! PROOFS. The rows of the arm: a move that ends, one without its switch, a simulated one that leaves the physical arm alone. -/

namespace Sys2Proof.Machine

variable {s : State}

/-! ### A simulated move and the physical arm -/

/-- The physical arm in `a` takes no move: its motion is simulated and goes on being so, or nothing is driven. -/
structure ArmFrozen (a : Option ArmState) (s : State) (ws : List Work) : Prop where
  arm : s.wsq.arm = a
  live : s.mode ≠ .startup
  noStart : Work.startEnd ∉ ws
  frozen : (s.simMotion = true ∧ ∀ r, Work.passEnd r ∉ ws) ∨ s.drives = false

theorem simMotion_setPass {p q : PassRecord} (h : s.psc.pass = some p) (e : q.rehearsal = p.rehearsal) :
    (s.setPass q).simMotion = s.simMotion := by
  simp [State.simMotion, State.rehearsal, State.inPass, State.setPass, h, e]

/-- Simulated motion ends with the pass alone (R94). -/
theorem handle_simMotion {w : Work} (h : s.simMotion = true) (p : ∀ r, w ≠ .passEnd r) (l : w ≠ .enterLockout)
    (e : w ≠ .startEnd) : (handle w s).1.simMotion = true := by
  cases hc : w.changesPsc with
  | false =>
    have k : (handle w s).1.simMotion = s.simMotion := by
      simp only [State.simMotion, State.rehearsal, State.inPass, (handle_leaves w s).psc hc]
      rfl
    rw [k, h]
  | true =>
    cases w
    case enterLockout => exact absurd rfl l
    case startEnd => exact absurd rfl e
    case passEnd r => exact absurd rfl (p r)
    case suspend c =>
      simp only [handle, pscSuspend]
      split
      · next hp =>
        split
        · exact (simMotion_setPass hp rfl).trans h
        · split
          · exact (simMotion_setPass hp rfl).trans h
          · exact h
      · exact h
    case dropSprayFields =>
      simp only [handle, pscDropFields]
      split
      · next hp => exact (simMotion_setPass hp rfl).trans h
      · exact h
    all_goals cases hc

theorem handle_drives_off {w : Work} (h : s.drives = false) (e : w ≠ .startEnd) :
    (handle w s).1.drives = false := by
  cases hc : w.changesPsc with
  | false =>
    have k : (handle w s).1.drives = s.drives := by simp only [State.drives, State.mode, (handle_leaves w s).psc hc]
    rw [k, h]
  | true =>
    cases w
    case enterLockout => rfl
    case startEnd => exact absurd rfl e
    case suspend c =>
      simp only [handle, pscSuspend]
      repeat' split
      all_goals exact h
    case passEnd r => simp only [handle, pscEnd]; split <;> exact h
    case dropSprayFields => simp only [handle, pscDropFields]; split <;> exact h
    all_goals cases hc

/-- Under simulated motion, or with nothing driven, an arm's move leaves the physical arm (R127, R129). -/
theorem handle_arm_frozen {st : ArmState} (h : s.simMotion = true ∨ s.drives = false) :
    (handle (.arm st) s).1.wsq.arm = s.wsq.arm := by
  simp only [handle, wsqArm]
  rcases h with h | h <;> cases st <;> simp [h] <;> split <;> rfl

theorem drives_live (h : s.drives = true) : s.mode ≠ .startup := by
  intro e
  simp [State.drives, e] at h

theorem ArmFrozen.handle {a : Option ArmState} {w : Work} {ws : List Work} (h : ArmFrozen a s (w :: ws)) :
    ArmFrozen a (handle w s).1 ((handle w s).2 ++ ws) := by
  have from_w : ∀ v ∈ (Machine.handle w s).2, v.comesFrom w = true := List.all_eq_true.1 (handle_comesFrom w s)
  have w_start : w ≠ .startEnd := fun e => h.noStart (e ▸ List.mem_cons_self ..)
  have ws_start : Work.startEnd ∉ ws := fun m => h.noStart (List.mem_cons_of_mem _ m)
  refine ⟨?arm, (handle_opensNothing w s).startup h.live, ?noStart, ?frozen⟩
  case arm =>
    refine .trans ?_ h.arm
    cases hc : w.changesArm with
    | false => exact ((handle_leaves w s).arm hc).1
    | true =>
      cases w
      case arm st => exact handle_arm_frozen (h.frozen.imp_left And.left)
      case startEnd => exact absurd rfl w_start
      all_goals cases hc
  case noStart =>
    intro m
    rcases List.mem_append.1 m with m | m
    · have c := from_w _ m
      cases w
      case startEndTest =>
        rw [handle_startEndTest_live h.live] at m
        cases m
      all_goals cases c
    · exact ws_start m
  case frozen =>
    rcases h.frozen with ⟨sim, ends⟩ | off
    · by_cases l : w = .enterLockout
      · subst l; exact .inr rfl
      · have w_end : ∀ r, w ≠ .passEnd r := fun r e => ends r (e ▸ List.mem_cons_self ..)
        refine .inl ⟨handle_simMotion sim w_end l w_start, fun r m => ?_⟩
        rcases List.mem_append.1 m with m | m
        · have c := from_w _ m
          cases w
          case enterLockout => exact l rfl
          all_goals cases c
        · exact ends r (List.mem_cons_of_mem _ m)
    · exact .inr (handle_drives_off off w_start)

theorem run_armFrozen {a : Option ArmState} {ws : List Work} (n : Nat) (h : ArmFrozen a s ws) : (run n ws s).wsq.arm = a := by
  rcases run_induct (P := ArmFrozen a) (fun u w ws p => p.handle) n ws s h with q | ⟨u, vs, q, e⟩
  · exact q.arm
  · rw [e]; exact q.arm

/-! ### The rows -/

/-- A move that ends at its OUT switch, the item EXTENDED already: the arm's state is the whole effect. -/
theorem cascade_arm_extended (t : s.armTakes = true) (l : s.stu.load.weeder = itemExtended s.profile) :
    cascade [.arm .extended] s = s.withArm .extended := by
  rw [cascade_eq, run_one (handle_arm_extended t)]
  have same : (s.withArm .extended).itemNow .weeder = (s.withArm .extended).stu.load.get .weeder :=
    (itemNow_weeder_out (by simp [State.withArm])).trans l.symm
  exact (run_leaf (handle_reload_same _ same)).trans (run_nil _ _)

/-- A move that ends at its IN switch, the item RETRACTED already and nothing to drive out or to ask for. -/
theorem cascade_arm_retracted (t : s.armTakes = true) (w : s.stu.weederAdm = none)
    (l : s.stu.load.weeder = itemRetracted s.profile)
    (c : s.running = false ∨ s.selected .weeder = false ∨ s.permits .weeder = false)
    (q : s.running = false ∨ s.selected .weeder = false ∨ s.permission .weeder ≠ some .awaitConfirm) :
    cascade [.arm .retracted] s = s.withArm .retracted := by
  have m : (s.withArm .retracted).simMotion = false := (armTakes_iff.1 t).2
  rw [cascade_eq, run_one (handle_arm_retracted t)]
  have same : (s.withArm .retracted).itemNow .weeder = (s.withArm .retracted).stu.load.get .weeder :=
    (itemNow_weeder_in rfl (by simp [State.withArm, w])).trans l.symm
  have idle : handle .drive (s.withArm .retracted) = (s.withArm .retracted, []) :=
    handle_drive_idle w (by rw [armNow_physical m]; rfl) (driveTerms_fail c) (onlyPermission_off q)
  exact (run_leaf (handle_reload_same _ same)).trans ((run_leaf idle).trans (run_nil _ _))

/-- A move that ends at its IN switch with nothing to drive out: the arm stays in, the item becomes RETRACTED (R4). -/
theorem cascade_arm_in (t : s.armTakes = true) (w : s.stu.weederAdm = none)
    (c : s.running = false ∨ s.selected .weeder = false ∨ s.permits .weeder = false) :
    ArmIn (cascade [.arm .retracted] s) ∧ (cascade [.arm .retracted] s).stu.load.weeder = itemRetracted s.profile := by
  obtain ⟨d, m⟩ := armTakes_iff.1 t
  have start : ArmIn (s.withArm .retracted) := ⟨⟨rfl, rfl⟩, w, m, drives_live d, c⟩
  have load : (handle (.reload .weeder) (s.withArm .retracted)).1.stu.load.weeder = itemRetracted s.profile :=
    handle_reload_weeder.trans (itemNow_weeder_in rfl (by simp [State.withArm, w]))
  have same : (handle (.reload .weeder) (s.withArm .retracted)).1.profile = s.profile := (handle_base _ _ rfl).profile
  rw [cascade_eq, run_one (handle_arm_retracted t), List.append_nil, run_one Prod.mk.eta.symm]
  refine (run_armIn (fun v hv => ?_) (start.handle rfl) (by rw [same]; exact load)).imp_right fun h => by rw [h, same]
  rcases List.mem_append.1 hv with hv | hv
  · exact start.works rfl v hv
  · simp at hv; rw [hv]; rfl

/-- The state of a move whose deadline has passed without its switch, before the report. -/
def State.stalled (s : State) : State :=
  { s with wsq := { s.wsq with arm := some .stalled, deadline := none, stall := true } }

/-- Outside a pass a reason that withholds the weeder joins the set, and nothing is dropped (R120). -/
theorem handle_withheld_outside (h : s.inPass = false) :
    handle (.weederWithheld true) s = ({ s with wsq := { s.wsq with stall := true } }, [.drive]) := by
  simp [handle, wsqWithheld, h]

/-- A deadline that passes outside a pass, the item EXTENDED already: STALLED, withheld, and ARM_TIMEOUT (R122, R123). -/
theorem cascade_arm_stalled (t : s.armTakes = true) (r : s.pins.armRet = false) (m : s.mode = .idle) (w : s.stu.weederAdm = none)
    (l : s.stu.load.weeder = itemExtended s.profile) (f : (s.cdu.flags.get .armTimeout).isSet = false) :
    cascade [.arm .stalled] s =
      s.stalled.raise .armTimeout (.minor (.arm (s.wsq.arm.getD .stalled) s.odu.rpc s.profile.armTime)) := by
  have out : s.inPass = false := by
    have m : s.psc.mode = .idle := m
    rw [State.inPass, m]; rfl
  have same : (s.withArm .stalled).itemNow .weeder = (s.withArm .stalled).stu.load.get .weeder :=
    (itemNow_weeder_out (by simp [State.withArm])).trans l.symm
  have withheld : handle (.weederWithheld true) (s.withArm .stalled) = (s.stalled, [.drive]) :=
    handle_withheld_outside (s := s.withArm .stalled) out
  have stops : s.stalled.running = false := by
    have out : s.stalled.inPass = false := out
    simp [State.running, out]
  have idle : handle .drive s.stalled = (s.stalled, []) :=
    handle_drive_idle w (by rw [armNow_physical (s := s.stalled) (armTakes_iff.1 t).2]; rfl) (driveTerms_fail (.inl stops))
      (onlyPermission_off (.inl stops))
  rw [cascade_eq, run_one (handle_arm_stalled t r)]
  simp only [List.append_nil]
  rw [run_leaf (handle_reload_same _ same), run_one withheld]
  simp only [List.cons_append, List.nil_append]
  rw [run_leaf idle, run_leaf (handle_occur (s := s.stalled) (.inl f)), run_nil]

/-- The state after a simulated move that ends in `a`. -/
def State.simEnds (s : State) (a : ArmState) : State := { s with wsq := { s.wsq with simArm := a, simDue := none } }

theorem simMotion_inPass (h : s.simMotion = true) : s.inPass = true := by
  cases e : s.inPass with
  | true => rfl
  | false => simp [State.simMotion, State.rehearsal, e] at h

theorem simMotion_drives (h : s.simMotion = true) : s.drives = true := by
  have p : s.psc.mode = .pass := beq_iff_eq.1 (simMotion_inPass h)
  simp [State.drives, State.mode, p]

theorem cascade_simExtended (h : s.simMotion = true) : cascade [.arm .extended] s = s.simEnds .extended := by
  have e : handle (.arm .extended) s = (s.simEnds .extended, []) := by
    simp [handle, wsqArm, simMotion_drives h, h, State.simEnds]
  rw [cascade_eq, run_leaf e, run_nil]

/-- A simulated move in leaves the physical arm; with no pass running and no record it ends in its own state alone. -/
theorem cascade_simRetracted (h : s.simMotion = true) :
    (cascade [.arm .retracted] s).wsq.arm = s.wsq.arm ∧
      (s.running = false → s.stu.weederAdm = none → cascade [.arm .retracted] s = s.simEnds .retracted) := by
  have d := simMotion_drives h
  refine ⟨run_armFrozen _ ⟨rfl, drives_live d, by simp, .inl ⟨h, by simp⟩⟩, fun n w => ?_⟩
  have e : handle (.arm .retracted) s = (s.simEnds .retracted, [.drive]) := by
    simp [handle, wsqArm, d, h, State.simEnds]
  have now : (s.simEnds .retracted).armNow = some .retracted := if_pos h
  have idle : handle .drive (s.simEnds .retracted) = (s.simEnds .retracted, []) :=
    handle_drive_idle w (by rw [now]; rfl) (driveTerms_fail (.inl n)) (onlyPermission_off (.inl n))
  rw [cascade_eq, run_one e]
  exact (run_leaf idle).trans (run_nil _ _)

theorem finish_arm_in (h : s.wsq.arm = some .retracted) : s.finish.out.armIn = false ∧ s.finish.out.armOut = false := by
  simp [State.finish, State.pinsOut, h, armIsOut, armIsDrivenIn]

/-- Settles O36: the rows by their conditions; a retraction that ends by the hand-offs' invariant `ArmIn`, a simulated one by
`ArmFrozen`. -/
theorem armMoves : Obligations.ArmMoves := by
  refine ⟨⟨fun b s hp hc => exec_armExt_level hp hc, fun b s hp hc => exec_armRet_level hp hc, fun s hp ht ha hl => ?_,
    fun s hp ht ha hw hc => ⟨?_, fun hl hq => ?_⟩⟩,
    fun s d hp hd ht ha hr hm hw hl hf => ?_, fun s d hp hd hm => ⟨fun ha => ?_, fun ha => ?_⟩⟩
  · rw [exec_armExt_ends hp ht ha, cascade_arm_extended (s := s.pinExt true) ht hl]
    rfl
  · obtain ⟨armIn, load⟩ := cascade_arm_in (s := s.pinRet true) ht hw hc
    refine ⟨_, exec_armRet_ends hp ht ha, (cascade_base _ _ rfl).trans (by constructor <;> rfl), armIn.arm.1, armIn.arm.2,
      (finish_arm_in armIn.arm.1).1, (finish_arm_in armIn.arm.1).2, armIn.adm, load⟩
  · rw [exec_armRet_ends hp ht ha, cascade_arm_retracted (s := s.pinRet true) ht hw hl hc hq]
    rfl
  · rw [exec_armDeadlineExpiry hp hd ht ha, cascade_arm_stalled (s := s.advance d) ht hr hm hw hl hf]
    rfl
  · rw [exec_simArmMoveDone hp hd hm, ha]
    exact congrArg (fun u : State => Host.Outcome.next u.finish) (cascade_simExtended (s := s.advance d) hm)
  · obtain ⟨arm, alone⟩ := cascade_simRetracted (s := s.advance d) hm
    refine ⟨_, exec_simArmMoveDone hp hd hm, ?_, ?_, fun hn hw => ?_⟩
    all_goals rw [ha]
    · exact (cascade_base _ _ rfl).trans (by constructor <;> rfl)
    · exact arm
    · rw [show (if ArmState.retracting == ArmState.extending then ArmState.extended else ArmState.retracted) = .retracted from rfl,
        alone hn hw]
      exact ⟨rfl, rfl⟩

end Sys2Proof.Machine

/-! PROOFS. Admission (R23 to R25): how a record is made, evaluated, granted, kept waiting and ended. -/

namespace Sys2Proof.Machine

variable {s : State}

/-! ### The admission test -/

/-- The S_EFF of a load table under the averages `a`, with the ring's clipped mark. -/
def State.counted (s : State) (a : Axes) (t : LoadTable) : Int := (s.marginOf t a).sEff

theorem admissible_iff {a : Axes} {r : Requester} (h : s.stu.held = some a) :
    s.admissible r = true ↔ s.stu.band.stops = false ∧ s.profile.sAdmit ≤ s.counted a (s.tableFor r) := by
  simp [State.admissible, h, State.counted]

theorem admissible_stops {r : Requester} (b : s.stu.band.stops = true) : s.admissible r = false := by
  simp [State.admissible, b]

/-- A record that waits and is admissible is granted (R24). -/
theorem handle_evalOne_grants {r : Requester} (h : s.stu.status r = some .waiting) (a : s.admissible r = true) :
    handle (.evalOne r) s = ({ s with stu := s.stu.setStatus r .granted }, [.reload r.item, .answer r .admitted]) := by
  simp [handle, stuEvaluate, h, a]

/-! ### Requests -/

/-- The status an evaluation leaves a waiting record with. -/
def State.verdict (s : State) (r : Requester) : AdmStatus := if s.admissible r then .granted else .waiting

theorem verdict_eq {a : Axes} {r : Requester} (h : s.stu.held = some a) : s.verdict r =
    if s.stu.band.stops = false ∧ s.profile.sAdmit ≤ s.counted a (s.tableFor r) then .granted else .waiting :=
  if_congr (admissible_iff h) rfl rfl

/-- The state with a fresh record of the weeder. -/
def State.asksWeeder (s : State) : State := { s with stu := { s.stu with weederAdm := some .waiting } }

/-- The state with a fresh record of the pruner for the pair `p`, the evaluated pair formed now (R23, log 43). -/
def State.asksPruner (s : State) (p : Pair) : State :=
  { s with stu := { s.stu with prunerAdm := some ⟨p, s.prs.head.confirmed.max p, .waiting⟩ } }

theorem handle_ask_weeder (p : Pair) : (handle (.ask .weeder p) s).1 =
    { s with stu := { s.stu with weederAdm := some (s.asksWeeder.verdict .weeder) } } := by
  simp only [handle, stuAsk, stuEvaluate, State.verdict]
  cases h : s.asksWeeder.admissible .weeder with
  | true => exact congrArg Prod.fst (if_pos (by rw [State.asksWeeder] at h; simp [Stu.status, h]))
  | false => exact congrArg Prod.fst (if_neg (by rw [State.asksWeeder] at h; simp [h]))

/-- Under a band that stops a request is refused and waits (R23, R25). -/
theorem handle_ask_stops (p : Pair) (b : s.stu.band.stops = true) :
    handle (.ask .weeder p) s = (s.asksWeeder, [.reload .weeder, .answer .weeder .refused]) := by
  simp [handle, stuAsk, stuEvaluate, State.admissible, State.asksWeeder, b, Requester.item]

theorem handle_ask_pruner (p : Pair) : (handle (.ask .pruner p) s).1 =
    { s with stu := { s.stu with
      prunerAdm := some ⟨p, s.prs.head.confirmed.max p, (s.asksPruner p).verdict .pruner⟩ } } := by
  simp only [handle, stuAsk, stuEvaluate, State.verdict]
  cases h : (s.asksPruner p).admissible .pruner with
  | true => exact congrArg Prod.fst (if_pos (by rw [State.asksPruner] at h; simp [Stu.status, h]))
  | false => exact congrArg Prod.fst (if_neg (by rw [State.asksPruner] at h; simp [h]))

/-- A granted pair is the head's counted pair (R5, R24). -/
theorem itemNow_head_granted {q e : Pair} (h : s.stu.prunerAdm = some ⟨q, e, .granted⟩) :
    s.itemNow .head = itemHead s.profile e := by
  simp [State.itemNow, State.headCounted, h]

theorem itemNow_weeder_granted (h : s.stu.weederAdm = some .granted) : s.itemNow .weeder = itemExtended s.profile :=
  if_pos (by simp [h])

theorem handle_reload_head : (handle (.reload .head) s).1.stu.load.head = s.itemNow .head := by
  simp only [handle, stuReload, stuItem]
  split
  · next h => exact h.symm
  · rfl

theorem handle_moveStarted_grant {r : Requester} (h : s.stu.status r = some .granted) :
    handle (.moveStarted r) s = ({ s with stu := s.stu.dropRecord r }, []) := by
  simp [handle, stuMoveStarted, h]

theorem handle_moveStarted_none {r : Requester} (h : s.stu.status r ≠ some .granted) : handle (.moveStarted r) s = (s, []) := by
  simp [handle, stuMoveStarted, h]

/-- Two records that wait are evaluated one after the other in either order (R25, log 9). -/
theorem handle_evalWaiting_both (w : s.stu.status .weeder = some .waiting) (p : s.stu.status .pruner = some .waiting) :
    (handle .evalWaiting s).1 = { s with freeCount := s.freeCount + 1 } ∧
      ((handle .evalWaiting s).2 = [.evalOne .weeder, .evalOne .pruner] ∨
        (handle .evalWaiting s).2 = [.evalOne .pruner, .evalOne .weeder]) := by
  simp only [handle, stuEvalWaiting, w, p]
  refine ⟨rfl, ?_⟩
  exact (em _).imp (fun h => if_pos h) fun h => if_neg h

end Sys2Proof.Machine

/-! PROOFS. After a trip no admission record is left: the hand-offs that follow a trip, the records among them (R26, R31, R126). -/

namespace Sys2Proof.Machine

variable {s : State}

/-! ### The hand-offs after a trip -/

/-- The detail of a flag that is no minor fault, so that its occurrence hands nothing on (R195). -/
def Detail.isMinor : Detail → Bool
  | .minor _ => true
  | _ => false

theorem handle_occur_notMinor {f : Flag} {d : Detail} (h : d.isMinor = false) : handle (.occur f d) s = (s.raise f d, []) := by
  simp only [handle, cduOccur]
  split
  · cases h
  · rfl

/-- The hand-offs that can follow a trip; those of the pruner's stop and rest only once the pass does not run. -/
def Work.inTrip (running : Bool) : Work → Bool
  | .occur _ d => !d.isMinor
  | .arm st => st != .stalled
  | .answer .pruner .admitted => false
  | .prunerStop | .endRun _ | .haltDone | .rest | .consider => !running
  | .reload _ | .tankReport _ | .compute _ | .takeResult | .ceiling | .evalWaiting | .evalOne _ | .trip _ | .bandGiven
  | .startEndTest | .answer .weeder _ | .answer .pruner .refused | .weederTrip | .immediate | .queueFull _ | .lift | .rebuild
  | .clearWeeder _ | .purge | .overflow _ | .drive | .withdraw _ | .moveStarted _ | .actQuery _ | .decide | .seek | .suspend _
  | .weederStop | .sprayStop | .prunerTrip | .outcome _ _ | .skipAll => true
  | _ => false

/-- The two hand-offs that are carried out where they arise: a request of the weeder in a running pass, a rest move of a head
that stands elsewhere. -/
inductive Urgent (s : State) : Work → Prop
  | ask (p : Pair) : s.running = true → Urgent s (.ask .weeder p)
  | issue : s.running = false → (∀ due, (s.headNow.issue Pair.rest due).2 = false) → Urgent s (.issue Pair.rest)

/-- The states of admission after a trip. -/
structure Refusing (s : State) : Prop where
  stops : s.stu.band.stops = true
  live : s.mode ≠ .startup
  pruner : s.stu.prunerAdm = none
  weeder : s.stu.weederAdm ≠ some .granted

theorem handle_running {w : Work} (h : w.changesPsc = false) : (handle w s).1.running = s.running := by
  simp only [State.running, State.inPass, (handle_leaves w s).psc h]

/-- Of the class only a suspension stops a pass. -/
theorem inTrip_running {w : Work} {r : Bool} (k : w.inTrip r = true) (n : ∀ c, w ≠ .suspend c) :
    (handle w s).1.running = s.running := by
  refine handle_running ?_
  cases w
  case suspend c => exact absurd rfl (n c)
  case enterLockout | passEnd | dropSprayFields | startEnd => cases k
  all_goals rfl

theorem inTrip_reports (r : Bool) : OfReports fun v => v.inTrip r :=
  ⟨fun _ => rfl, fun _ _ _ => rfl, rfl, fun _ _ _ => rfl⟩

/-- A suspension event leaves no pass running, and tells the tool blocks if it ended one that ran (R95). -/
theorem handle_suspend_stops (c : Suspension) : (handle (.suspend c) s).1.running = false ∧
    (handle (.suspend c) s).2 = if s.running then [.weederStop, .prunerStop, .sprayStop] else [] := by
  simp only [handle, pscSuspend]
  split
  · next p hi hp =>
    have r : s.running = p.suspension.isNone := by simp [State.running, hi, hp]
    rw [r]
    cases hs : p.suspension.isNone with
    | true =>
      simp [State.running, State.setPass]
    | false =>
      cases c <;> simp [Suspension.replaces, State.running, State.setPass, hi, hp, hs]
  · next hn =>
    have r : s.running = false := by
      cases hi : s.inPass with
      | false => simp [State.running, hi]
      | true =>
        cases hp : s.psc.pass with
        | none => simp [State.running, hp]
        | some p => exact absurd hp (hn p hi)
    exact ⟨r, by rw [r]; rfl⟩

/-- A refusal told to a pruner without a record has no effect (R142). -/
theorem handle_refused_pruner_none (h : s.stu.prunerAdm = none) : handle (.answer .pruner .refused) s = (s, []) := by
  cases hr : s.prs.run <;> simp [handle, prsAnswer, hr, Stu.status_pruner_none h]

/-- The drive condition with a record that is not granted: a request in a running pass, or the arm's return (R117, R118). -/
theorem drive_works (r : Bool) : ((handle .drive s).2 = [.ask .weeder Pair.rest] ∧ s.running = true) ∨
    ((handle .drive s).2.all fun v => v.inTrip r) = true := by
  simp only [handle, wsqDrive]
  split
  · exact .inr rfl
  · split
    · next t =>
      have run : s.running = true := by
        simp [DriveTerms.none, State.driveTerms] at t
        exact t.1.1.1.2
      split
      · exact .inl ⟨rfl, run⟩
      · exact .inr rfl
    · right
      repeat' (first | rfl | split)

/-- A target issued to a head that moves, or stands elsewhere, is no move that ends at once (R135). -/
theorem Head.issue_goes {h : Head} {p : Pair} (c : h.state = .moving ∨ h.confirmed ≠ p) (due : Nat) :
    (h.issue p due).2 = false := by
  by_cases m : h.state = .moving
  · simp [Head.issue, m]
  · have n : ¬ p = h.confirmed := fun e => c.elim m (· e.symm)
    simp [Head.issue, m, n]

/-- A commanded rest issues the rest pair to a head that stands or moves elsewhere (R137). -/
theorem rest_works : (handle .rest s).2 = [] ∨
    ((handle .rest s).2 = [.issue Pair.rest] ∧ ∀ due, (s.headNow.issue Pair.rest due).2 = false) := by
  simp only [handle, prsRest]
  cases hs : s.headNow.state with
  | unplaced => exact .inl rfl
  | moving =>
    by_cases e : s.headNow.issued = Pair.rest
    · simp [e]
    · simp [e, Head.issue_goes (.inl hs)]
  | atTarget =>
    by_cases e : s.headNow.confirmed = Pair.rest
    · simp [e]
    · simp [e, Head.issue_goes (.inr e)]

/-- The hand-offs of the class that hand on hand-offs of the class alone. -/
theorem inTrip_all {w : Work} (h : Refusing s) (k : w.inTrip s.running = true) (n1 : w ≠ .drive) (n2 : w ≠ .rest)
    (n3 : ∀ c, w ≠ .suspend c) : ((handle w s).2.all fun v => v.inTrip s.running) = true := by
  cases w
  case drive => exact absurd rfl n1
  case rest => exact absurd rfl n2
  case suspend c => exact absurd rfl (n3 c)
  case occur f d => rw [handle_occur_notMinor (by simpa [Work.inTrip] using k)]; rfl
  case startEndTest => rw [handle_startEndTest_live h.live]; rfl
  case evalOne r => rw [handle_evalOne_keeps (.inr (admissible_stops h.stops))]; rfl
  case trip c =>
    rcases handle_trip_cases (s := s) c with e | ⟨r, _, _, -, b, -⟩
    · rw [e]; rfl
    · rw [h.stops] at b; cases b
  case seek =>
    simp only [handle, spgSeek, spgGrant]
    repeat' (first | rfl | (rw [List.all_append, chargePending_all (inTrip_reports _)]; rfl) | split)
  case skipAll => exact all_map _ _ _ fun _ => rfl
  case rebuild =>
    simp only [handle, wsqRebuild, List.all_append, Bool.and_eq_true]
    refine ⟨⟨⟨all_map _ _ _ fun _ => rfl, ?_⟩, ?_⟩, rfl⟩
    · exact List.all_eq_true.2 fun v hv => by
        obtain ⟨st, -, hv⟩ := List.mem_flatMap.1 hv
        obtain ⟨n, -, rfl⟩ := List.mem_map.1 hv
        rfl
    · split <;> rfl
  case arm st =>
    cases st
    case stalled => cases k
    all_goals
      simp only [handle, wsqArm]
      repeat' (first | rfl | split)
  case answer r a =>
    cases r <;> cases a
    · rw [handle_admitted_none h.weeder]; rfl
    · simp only [handle, wsqAnswer]; split <;> rfl
    · cases k
    · rw [handle_refused_pruner_none h.pruner]; rfl
  case compute | takeResult | ceiling | evalWaiting | bandGiven | reload | tankReport | withdraw | moveStarted | weederTrip
      | immediate | queueFull | lift | clearWeeder | purge | overflow | actQuery | decide | weederStop | sprayStop | outcome =>
    simp only [handle, stuCompute, Published.clipReport, stuTakeResult, stuCeiling, stuEvalWaiting, stuBandGiven, stuReload,
      stuTankReport, stuItem, stuWithdraw, stuMoveStarted, wsqTrip, wsqImmediate, wsqQueueFull, wsqLift, ttrClearWeeder,
      ttrPurge, wsqOverflow, mpuActQuery, spgDecide, wsqStop, spgStop, prsOutcome]
    repeat' (first | rfl | split)
  case prunerTrip =>
    simp only [handle, prsTrip]
    split
    · rfl
    · next r => simp [Work.inTrip, r]
  case prunerStop | endRun | haltDone | consider =>
    have r : s.running = false := by simpa [Work.inTrip] using k
    simp only [handle, prsStop, prsEndRun, prsHaltDone, prsConsider, r]
    repeat' (first | rfl | split)
  all_goals cases k

/-- What a hand-off of the class hands on: hand-offs of the class, or one urgent hand-off. -/
theorem inTrip_works {w : Work} (h : Refusing s) (k : w.inTrip s.running = true) :
    (∀ v ∈ (handle w s).2, v.inTrip (handle w s).1.running = true) ∨ ∃ v, (handle w s).2 = [v] ∧ Urgent (handle w s).1 v := by
  by_cases hs : ∃ c, w = .suspend c
  · obtain ⟨c, rfl⟩ := hs
    obtain ⟨r, e⟩ := handle_suspend_stops (s := s) c
    rw [e, r]
    left
    split <;> simp [Work.inTrip]
  · have run := inTrip_running (s := s) k fun c e => hs ⟨c, e⟩
    by_cases hd : w = .drive
    · subst hd
      rcases drive_works (s := s) s.running with ⟨e, r⟩ | e
      · exact .inr ⟨_, e, .ask _ (run.trans r)⟩
      · rw [run]; exact .inl (List.all_eq_true.1 e)
    · by_cases hr : w = .rest
      · subst hr
        rcases rest_works (s := s) with e | ⟨e, goes⟩
        · rw [e]; exact .inl (by simp)
        · have r : s.running = false := by simpa [Work.inTrip] using k
          exact .inr ⟨_, e, .issue (run.trans r) goes⟩
      · rw [run]
        exact .inl (List.all_eq_true.1 (inTrip_all h k hd hr fun c e => hs ⟨c, e⟩))

theorem Urgent.running {w : Work} (u : Urgent s w) : (handle w s).1.running = s.running := by
  cases u <;> exact handle_running rfl

/-- What an urgent hand-off hands on is of the class. -/
theorem urgent_works {w : Work} (h : Refusing s) (u : Urgent s w) :
    ∀ v ∈ (handle w s).2, v.inTrip (handle w s).1.running = true := by
  rw [u.running]
  cases u with
  | ask p r =>
    rw [handle_ask_stops p h.stops]
    simp [Work.inTrip]
  | issue r goes =>
    refine List.all_eq_true.1 ?_
    simp only [handle, prsIssue]
    split
    · rfl
    · rw [goes, r]
      simp only [Bool.false_eq_true, if_false]
      split <;> rfl

end Sys2Proof.Machine

/-! PROOFS. The hand-offs that follow a trip leave no admission record and no pass running (R26, R95). -/

namespace Sys2Proof.Machine

variable {s : State}

theorem Work.inTrip_plain {w : Work} {r : Bool} (h : w.inTrip r = true) : plain [w] = true := by
  cases w <;> first | rfl | cases h

/-- A pass that stops running only adds to the class. -/
theorem Work.inTrip_false {w : Work} {r : Bool} (h : w.inTrip r = true) : w.inTrip false = true := by
  cases r
  · exact h
  · cases w
    case answer r a => cases r <;> cases a <;> first | rfl | cases h
    all_goals first | exact h | rfl

theorem Urgent.plain {w : Work} (u : Urgent s w) : plain [w] = true := by cases u <;> rfl

/-- The hand-offs that follow a trip are of the class, but for an urgent one in front. -/
inductive Follows (s : State) : List Work → Prop
  | all {ws : List Work} : (∀ w ∈ ws, w.inTrip s.running = true) → Follows s ws
  | urgent {w : Work} {ws : List Work} : Urgent s w → (∀ v ∈ ws, v.inTrip s.running = true) → Follows s (w :: ws)

theorem Follows.head {w : Work} {ws : List Work} (h : Follows s (w :: ws)) : w.inTrip s.running = true ∨ Urgent s w := by
  cases h with
  | all h => exact .inl (h w (List.mem_cons_self ..))
  | urgent u h => exact .inr u

theorem Follows.tail {w : Work} {ws : List Work} (h : Follows s (w :: ws)) : ∀ v ∈ ws, v.inTrip s.running = true := by
  cases h with
  | all h => exact fun v hv => h v (List.mem_cons_of_mem _ hv)
  | urgent u h => exact h

/-- No hand-off of the class makes a pass run. -/
theorem inTrip_keeps {v w : Work} (h : v.inTrip s.running = true) : v.inTrip (handle w s).1.running = true := by
  cases r : s.running with
  | false => rw [(handle_opensNothing w s).running r, ← r]; exact h
  | true =>
    rw [r] at h
    cases (handle w s).1.running
    · exact Work.inTrip_false h
    · exact h

theorem Refusing.handle {w : Work} (h : Refusing s) (k : w.inTrip s.running = true ∨ Urgent s w) : Refusing (handle w s).1 where
  stops := by rw [(handle_stopped (k.elim Work.inTrip_plain Urgent.plain) h.stops).1]; exact h.stops
  live := (handle_opensNothing w s).startup h.live
  pruner := handle_prunerAdm_none h.pruner (by rintro p rfl; rcases k with k | k <;> cases k)
  weeder := by
    rcases k with k | ⟨p, -⟩ | -
    · by_cases e : w = .evalOne .weeder
      · rw [e, handle_evalOne_keeps (.inr (admissible_stops h.stops))]
        exact h.weeder
      · rcases handle_weederAdm_kept (s := s) (w := w) (by rintro p rfl; cases k) e with q | q <;> rw [q]
        · exact h.weeder
        · decide
    · rw [handle_ask_stops p h.stops]
      simp [State.asksWeeder]
    · rcases handle_weederAdm_kept (s := s) (w := .issue Pair.rest) (by simp) (by simp) with q | q <;> rw [q]
      · exact h.weeder
      · decide

/-- After a trip: a running pass is about to be suspended, a record of the weeder about to be withdrawn. -/
structure AfterTrip (s : State) (ws : List Work) : Prop where
  refusing : Refusing s
  follows : Follows s ws
  suspends : s.running = true → ∃ c, Work.suspend c ∈ ws
  withdraws : s.stu.weederAdm ≠ none → s.running = true ∨ Work.weederStop ∈ ws ∨ Work.withdraw .weeder ∈ ws

theorem AfterTrip.step {w : Work} {ws : List Work} (h : AfterTrip s (w :: ws)) :
    AfterTrip (handle w s).1 ((handle w s).2 ++ ws) := by
  obtain ⟨refusing, follows, suspends, withdraws⟩ := h
  have tail : ∀ v ∈ ws, v.inTrip (handle w s).1.running = true := fun v hv => inTrip_keeps (follows.tail v hv)
  have running : (∀ c, w ≠ .suspend c) → (handle w s).1.running = s.running := fun n =>
    follows.head.elim (fun k => inTrip_running k n) Urgent.running
  refine ⟨refusing.handle follows.head, ?follows, ?suspends, ?withdraws⟩
  case follows =>
    have mixed : (∀ v ∈ (handle w s).2, v.inTrip (handle w s).1.running = true) → Follows (handle w s).1 ((handle w s).2 ++ ws) :=
      fun works => .all fun v hv => (List.mem_append.1 hv).elim (works v) (tail v)
    rcases follows.head with k | u
    · rcases inTrip_works refusing k with works | ⟨v, e, u⟩
      · exact mixed works
      · rw [e]; exact .urgent u tail
    · exact mixed (urgent_works refusing u)
  case suspends =>
    intro r
    have n : ∀ c, w ≠ .suspend c := by
      rintro c rfl
      rw [(handle_suspend_stops c).1] at r
      cases r
    obtain ⟨c, hc⟩ := suspends (running n ▸ r)
    exact ⟨c, List.mem_append_right _ ((List.mem_cons.1 hc).resolve_left fun e => n c e.symm)⟩
  case withdraws =>
    intro a
    have others : Work.weederStop ∈ w :: ws ∨ Work.withdraw .weeder ∈ w :: ws → w ≠ .weederStop → w ≠ .withdraw .weeder →
        Work.weederStop ∈ (Machine.handle w s).2 ++ ws ∨ Work.withdraw .weeder ∈ (Machine.handle w s).2 ++ ws := by
      intro o n1 n2
      refine o.imp (fun m => ?_) fun m => ?_
      · exact List.mem_append_right _ ((List.mem_cons.1 m).resolve_left n1.symm)
      · exact List.mem_append_right _ ((List.mem_cons.1 m).resolve_left n2.symm)
    by_cases hs : ∃ c, w = .suspend c
    · obtain ⟨c, rfl⟩ := hs
      obtain ⟨-, e⟩ := handle_suspend_stops (s := s) c
      rw [(handle_leaves (.suspend c) s).stu rfl] at a
      rcases withdraws a with r | o
      · rw [e, r]; simp
      · exact .inr (others o (by simp) (by simp))
    · have run := running fun c e => hs ⟨c, e⟩
      by_cases h1 : w = .weederStop
      · subst h1
        exact .inr (.inr (List.mem_append_left _ (List.mem_cons_self ..)))
      · by_cases h2 : w = .withdraw .weeder
        · subst h2
          exact absurd rfl a
        · rw [run]
          by_cases before : s.stu.weederAdm = none
          · rcases follows.head with k | u
            · exact absurd (handle_weederAdm_none before (by rintro p rfl; cases k)) a
            · cases u with
              | ask p r => exact .inl r
              | issue => exact absurd (handle_weederAdm_none before (by simp)) a
          · exact (withdraws before).imp_right fun o => others o h1 h2

/-- Once the hand-offs after a trip are carried out, no pass runs and no admission record is left (R26, R95). -/
theorem AfterTrip.done (h : AfterTrip s []) :
    s.running = false ∧ s.stu.weederAdm = none ∧ s.stu.prunerAdm = none := by
  have r : s.running = false := by
    by_contra r
    obtain ⟨c, m⟩ := h.suspends (by simpa using r)
    cases m
  refine ⟨r, ?_, h.refusing.pruner⟩
  by_contra a
  rcases h.withdraws a with q | q | q
  · rw [r] at q; cases q
  · cases q
  · cases q

theorem Work.inTrip_of_true {w : Work} {r : Bool} (h : w.inTrip true = true) : w.inTrip r = true := by
  cases r
  · exact Work.inTrip_false h
  · exact h

theorem tripWorks_inTrip (c : TripCause) (r : Published) (k : Nat) : ((s.tripWorks c r k).all fun w => w.inTrip true) = true := by
  simp only [State.tripWorks, List.all_append, Bool.and_eq_true]
  refine ⟨⟨⟨⟨⟨⟨rfl, ?_⟩, rfl⟩, ?_, ?_⟩, rfl⟩, ?_⟩, rfl⟩
  all_goals split <;> rfl

/-- A trip in NORMAL or CAUTION starts such hand-offs, whatever of their class waited behind it. -/
theorem AfterTrip.of_trip {c : TripCause} {r : Published} {k n : Nat} {ws : List Work} (m : s.mode ≠ .startup)
    (hw : ∀ w ∈ ws, w.inTrip true = true) :
    AfterTrip { s.tripped c r with freeCount := n } (s.tripWorks c r k ++ ws) where
  refusing := by
    refine ⟨?_, m, rfl, by simp [State.tripped]⟩
    simp only [State.tripped]
    split <;> rfl
  follows := .all fun w h => Work.inTrip_of_true <|
    (List.mem_append.1 h).elim (List.all_eq_true.1 (tripWorks_inTrip c r k) w) (hw w)
  suspends _ := ⟨.trip, by
    refine List.mem_append_left _ ?_
    simp only [State.tripWorks]
    by_cases e : k = 0 <;> simp [e]⟩
  withdraws a := absurd rfl a

/-- A trip event with the hand-offs after it leaves no admission record and no pass running. -/
theorem run_trip_done {n : Nat} {c : TripCause} {ws : List Work} {r : Published} (h : s.stu.published = some r)
    (b : s.stu.band.stops = false) (m : s.mode ≠ .startup) (hw : ∀ w ∈ ws, w.inTrip true = true)
    (o : (run (n + 1) (.trip c :: ws) s).overrun = false) :
    let t := run (n + 1) (.trip c :: ws) s
    t.running = false ∧ t.stu.weederAdm = none ∧ t.stu.prunerAdm = none := by
  obtain ⟨k, f, e⟩ := handle_trip c h b
  rw [run_one e] at o ⊢
  rcases run_induct (P := AfterTrip) (fun u w ws p => p.step) n _ _ (.of_trip m hw) with q | ⟨u, vs, -, q⟩
  · exact q.done
  · rw [q] at o
    cases o

end Sys2Proof.Machine

/-! PROOFS. A result below S_TRIP trips (R26, R28 to R31, R39). -/

namespace Sys2Proof.Machine

variable {s : State}

theorem Band.stops_false {b : Band} (h : b = .normal ∨ b = .caution) : b.stops = false := by
  rcases h with h | h <;> rw [h] <;> rfl

/-- A result below S_TRIP in NORMAL or CAUTION is a trip event (R29, R30). -/
theorem handle_takeResult_trips {r : Published} (h : s.stu.published = some r) (b : s.stu.band = .normal ∨ s.stu.band = .caution)
    (e : r.margin.sEff < s.profile.sTrip) : handle .takeResult s = (s, [.trip .stability]) := by
  rcases b with b | b <;> simp [handle, stuTakeResult, h, b, e]

theorem tripped_bandForm (c : TripCause) (r : Published) (n : Nat) : BandForm { s.tripped c r with freeCount := n } := by
  refine ⟨?_, fun h => absurd h (by simp [State.tripped]), fun _ p hp => ?_⟩
  · simp only [State.tripped]
    split <;> rfl
  · simp only [State.tripped, Option.some.injEq] at hp
    rw [← hp]

/-- After a trip the ceiling stays 0 (R22, R31). -/
theorem run_trip_ceiling {n : Nat} {c : TripCause} {ws : List Work} {r p : Published} (h : s.stu.published = some r)
    (b : s.stu.band.stops = false) (hw : plain ws = true) (hp : (run (n + 3) (.trip c :: ws) s).stu.published = some p) : p.c = 0 := by
  have stops := run_trip_stops (n := n) (c := c) (ws := ws) (by rw [h]; rfl) hw
  obtain ⟨k, f, e⟩ := handle_trip c h b
  rw [run_one e] at stops hp
  have form : BandForm (run (n + 2) (s.tripWorks c r k ++ ws) { s.tripped c r with freeCount := f }) :=
    run_keeps (fun w _ q => handle_bandForm w q) (fun _ q => q.of_stu rfl) _ _ _ (tripped_bandForm c r f)
  exact form.ceiling stops p hp

theorem clipReport_inTrip (r : Published) : ∀ w ∈ r.clipReport, w.inTrip true = true := by
  simp only [Published.clipReport]
  split <;> simp [Work.inTrip, Detail.isMinor]

theorem clipReport_plain (r : Published) : plain r.clipReport = true := by
  simp only [Published.clipReport]
  split <;> rfl

/-- A computation whose result is below S_TRIP, in NORMAL or CAUTION: the result published, then the trip and what follows it. -/
theorem cascade_compute_low {c : Cause} {a : Axes} (h : s.stu.held = some a) (p : s.stu.published.isSome = true)
    (b : s.stu.band = .normal ∨ s.stu.band = .caution) (e : (s.marginOf s.stu.load a).sEff < s.profile.sTrip) :
    cascade [.compute c] s = run (999999999900 + 95 + 3)
      (.trip .stability :: ([.ceiling, .evalWaiting] ++ (s.result c a).clipReport)) (s.publish (s.result c a)) := by
  rw [cascade_eq, run_one (handle_compute h p)]
  simp only [List.cons_append, List.nil_append, List.append_nil]
  rw [run_one (handle_takeResult_trips (s := s.publish (s.result c a)) rfl b e)]
  rfl

/-- What such a computation leaves: the band, the trip record of the result, the flags, the ceiling, no admission record. -/
theorem cascade_compute_trips {c : Cause} {a : Axes} (h : s.stu.held = some a) (p : s.stu.published.isSome = true)
    (m : s.mode ≠ .startup) (b : s.stu.band = .normal ∨ s.stu.band = .caution)
    (e : (s.marginOf s.stu.load a).sEff < s.profile.sTrip) :
    let latched := (s.cdu.flags.get .trip).isSet
    let t := cascade [.compute c] s
    t.stu.band = (if latched then .latched else .tripped) ∧
      t.stu.trip = some ((s.result c a).tripRecord .stability s.sampleState latched) ∧
      (t.cdu.flags.get .trip).isSet = true ∧ (latched = true → (t.cdu.flags.get .latch).isSet = true) ∧
      t.stu.band.stops = true ∧ (∀ p, t.stu.published = some p → p.c = 0) ∧
      (t.overrun = false → t.stu.weederAdm = none ∧ t.stu.prunerAdm = none) := by
  intro latched t
  have et : t = _ := cascade_compute_low (c := c) h p b e
  have free : (s.publish (s.result c a)).stu.band.stops = false := Band.stops_false b
  have behind : plain ([.ceiling, .evalWaiting] ++ (s.result c a).clipReport) = true :=
    (plain_append _ _).trans (clipReport_plain _)
  have behind' : ∀ w ∈ [.ceiling, .evalWaiting] ++ (s.result c a).clipReport, w.inTrip true = true := by
    simp only [List.cons_append, List.nil_append, List.forall_mem_cons]
    exact ⟨rfl, rfl, clipReport_inTrip _⟩
  obtain ⟨hb, ht, hf, hl⟩ := run_trip (n := 999999999900 + 95) (c := .stability) (s := s.publish (s.result c a)) rfl free behind
  rw [et]
  refine ⟨hb, ht, hf, hl, run_trip_stops rfl behind, fun p hp => run_trip_ceiling rfl free behind hp, fun o => ?_⟩
  exact (run_trip_done (s := s.publish (s.result c a)) rfl free m behind' o).2

end Sys2Proof.Machine

/-! PROOFS. A grant of the weeder's record and what its load item's change brings about before the weeder is told (R16, R24). -/

namespace Sys2Proof.Machine

variable {s : State}

/-! ### What a load change brings about -/

/-- The hand-offs that a load change can bring about, up to a trip. -/
def Work.quiet : Work → Bool
  | .occur _ d => !d.isMinor
  | .compute _ | .takeResult | .ceiling | .evalWaiting | .evalOne _ | .reload _ | .tankReport _ | .bandGiven | .startEndTest
  | .decide | .seek | .actQuery .spray | .trip _ => true
  | _ => false

theorem Work.quiet_inTrip {w : Work} (h : w.quiet = true) : w.inTrip true = true := by
  cases w <;> first | exact h | rfl | cases h

theorem Work.quiet_plain {w : Work} (h : w.quiet = true) : plain [w] = true := Work.inTrip_plain (Work.quiet_inTrip h)

/-- A band that stops nothing, a record of the weeder in `a`, which does not wait, and none of the pruner. -/
structure Calm (a : Option AdmStatus) (s : State) : Prop where
  free : s.stu.band.stops = false
  live : s.mode ≠ .startup
  weeder : s.stu.weederAdm = a
  idle : a ≠ some .waiting
  pruner : s.stu.prunerAdm = none
  load : a = some .granted → s.stu.load.weeder = itemExtended s.profile

theorem Calm.evalOne {a : Option AdmStatus} (h : Calm a s) (r : Requester) : handle (.evalOne r) s = (s, []) := by
  refine handle_evalOne_keeps (.inl ?_)
  cases r with
  | weeder => exact fun e => h.idle (h.weeder.symm.trans e)
  | pruner => rw [Stu.status_pruner_none h.pruner]; decide

theorem quiet_reports : OfReports fun v => v.quiet := ⟨fun _ => rfl, fun _ _ _ => rfl, rfl, fun _ _ _ => rfl⟩

theorem quiet_works {a : Option AdmStatus} {w : Work} (h : Calm a s) (k : w.quiet = true) (n : ∀ c, w ≠ .trip c) :
    ((handle w s).2.all Work.quiet) = true := by
  cases w
  case trip c => exact absurd rfl (n c)
  case occur f d => rw [handle_occur_notMinor (by simpa [Work.quiet] using k)]; rfl
  case startEndTest => rw [handle_startEndTest_live h.live]; rfl
  case evalOne r => rw [h.evalOne r]; rfl
  case seek =>
    simp only [handle, spgSeek, spgGrant]
    repeat' (first | rfl | (rw [List.all_append, chargePending_all quiet_reports]; rfl) | split)
  case compute | takeResult | ceiling | evalWaiting | bandGiven | reload | tankReport | actQuery | decide =>
    simp only [handle, stuCompute, Published.clipReport, stuTakeResult, stuCeiling, stuEvalWaiting, stuBandGiven, stuReload,
      stuTankReport, stuItem, mpuActQuery, spgDecide]
    repeat' (first | rfl | split)
  all_goals cases k

/-- No quiet hand-off but a trip changes the records, or stops the band. -/
theorem quiet_stu {a : Option AdmStatus} {w : Work} (h : Calm a s) (k : w.quiet = true) (n : ∀ c, w ≠ .trip c) :
    (handle w s).1.stu.band.stops = false ∧ (handle w s).1.stu.weederAdm = a ∧ (handle w s).1.stu.prunerAdm = none := by
  obtain ⟨hb, hw, hp⟩ : s.stu.band.stops = false ∧ s.stu.weederAdm = a ∧ s.stu.prunerAdm = none :=
    ⟨h.free, h.weeder, h.pruner⟩
  cases hc : w.changesStu with
  | false => rw [(handle_leaves w s).stu hc]; exact ⟨hb, hw, hp⟩
  | true =>
    cases w
    case trip c => exact absurd rfl (n c)
    case evalOne r => rw [h.evalOne r]; exact ⟨hb, hw, hp⟩
    case ceiling => exact ⟨hb, hw, hp⟩
    case compute | takeResult | reload | tankReport =>
      simp only [handle, stuCompute, stuTakeResult, stuReload, stuTankReport, stuItem]
      repeat' split
      all_goals first | exact ⟨hb, hw, hp⟩ | exact ⟨rfl, hw, hp⟩
    case recover | ask | withdraw | moveStarted | sensorFault | profileTaken => cases k
    all_goals cases hc

theorem Calm.handle {a : Option AdmStatus} {w : Work} (h : Calm a s) (k : w.quiet = true) (n : ∀ c, w ≠ .trip c) :
    Calm a (handle w s).1 := by
  obtain ⟨free, weeder, pruner⟩ := quiet_stu h k n
  refine ⟨free, (handle_opensNothing w s).startup h.live, weeder, h.idle, pruner, fun g => ?_⟩
  rw [(handle_base w s (Work.quiet_plain k)).profile]
  by_cases e : w = .reload .weeder
  · rw [e, handle_reload_weeder, itemNow_weeder_granted (h.weeder.trans g)]
  · rw [handle_weederLoad (Work.quiet_plain k) e, h.load g]

/-! ### The drive condition meanwhile -/

/-- The weeder's drive condition stands in `t` as it does in `s`, and so do its arms. -/
structure SameDrive (s t : State) : Prop where
  terms : t.driveTerms = s.driveTerms
  physical : t.simMotion = s.simMotion
  drives : t.drives = s.drives
  arm : t.wsq.arm = s.wsq.arm

theorem quiet_sameDrive {w : Work} (k : w.quiet = true) (s : State) : SameDrive s (handle w s).1 := by
  have psc : (handle w s).1.psc = s.psc := (handle_leaves w s).psc (by cases w <;> first | rfl | cases k)
  have wsq : (handle w s).1.wsq = s.wsq := (handle_leaves w s).wsq (by cases w <;> first | rfl | cases k)
  have rpc : (handle w s).1.odu.rpc = s.odu.rpc := (handle_base w s (Work.quiet_plain k)).rpc
  have permits : (handle w s).1.permits .weeder = s.permits .weeder :=
    handle_permits_kept (by rintro c rfl; cases k) (by rintro c r rfl; cases k) (by rintro rfl; cases k)
  constructor
  · simp only [State.driveTerms, State.running, State.selected, State.inPass, permits, psc, wsq, rpc]
  · simp only [State.simMotion, State.rehearsal, State.inPass, psc]; rfl
  · simp only [State.drives, State.mode, psc]
  · rw [wsq]

theorem SameDrive.trans {t u : State} (a : SameDrive s t) (b : SameDrive t u) : SameDrive s u :=
  ⟨b.terms.trans a.terms, b.physical.trans a.physical, b.drives.trans a.drives, b.arm.trans a.arm⟩

/-- Up to the next hand-off that is not quiet: calm with the drive condition as it stood, or after a trip. -/
def Settling (base : State) (a : Option AdmStatus) (s : State) (ws : List Work) : Prop :=
  (Calm a s ∧ SameDrive base s ∧ ∀ w ∈ ws, w.quiet = true) ∨ AfterTrip s ws

theorem Settling.step {base : State} {a : Option AdmStatus} {w : Work} {ws : List Work} (h : Settling base a s (w :: ws)) :
    Settling base a (handle w s).1 ((handle w s).2 ++ ws) := by
  rcases h with ⟨calm, drive, quiet⟩ | trip
  · obtain ⟨k, rest⟩ := List.forall_mem_cons.1 quiet
    have drive' := drive.trans (quiet_sameDrive k s)
    have behind : ∀ v ∈ ws, v.inTrip true = true := fun v hv => Work.quiet_inTrip (rest v hv)
    by_cases n : ∃ c, w = .trip c
    · obtain ⟨c, rfl⟩ := n
      rcases handle_trip_cases (s := s) c with e | ⟨r, k, m, -, -, e⟩
      · rw [e]; exact .inl ⟨calm, drive, rest⟩
      · rw [e]; exact .inr (.of_trip calm.live behind)
    · have n : ∀ c, w ≠ .trip c := fun c e => n ⟨c, e⟩
      refine .inl ⟨calm.handle k n, drive', fun v hv => ?_⟩
      exact (List.mem_append.1 hv).elim (List.all_eq_true.1 (quiet_works calm k n) v) (rest v)
  · exact .inr trip.step

/-- A step's hand-offs up to a list that waits behind them: an invariant that holds of the former alone leads to the latter. -/
theorem run_then {P : State → List Work → Prop} (h : ∀ s w ws, P s (w :: ws) → P (handle w s).1 ((handle w s).2 ++ ws)) :
    ∀ n ws vs s, P s ws → (run n (ws ++ vs) s).overrun = false → ∃ m u, P u [] ∧ run n (ws ++ vs) s = run m vs u
  | n, [], vs, s, p, _ => ⟨n, s, p, rfl⟩
  | 0, w :: ws, vs, s, p, o => Bool.noConfusion o
  | n + 1, w :: ws, vs, s, p, o => by
    have e : run (n + 1) (w :: ws ++ vs) s = run n ((handle w s).2 ++ ws ++ vs) (handle w s).1 := by
      rw [List.append_assoc]; rfl
    rw [e] at o ⊢
    exact run_then h n _ vs _ (h s w ws p) o

/-- A list that is carried out without an overrun begins with its first hand-off. -/
theorem run_peel {n : Nat} {w : Work} {ws vs : List Work} {u : State} (e : handle w s = (u, vs))
    (o : (run n (w :: ws) s).overrun = false) : ∃ m, run n (w :: ws) s = run m (vs ++ ws) u := by
  cases n with
  | zero => cases o
  | succ n => exact ⟨n, run_one e⟩

end Sys2Proof.Machine

/-! PROOFS. The weeder told of its grant, and the results that trip, refuse and grant (R16, R23 to R26, R28, R30, R31, R118). -/

namespace Sys2Proof.Machine

variable {s : State}

/-! ### The arm on its way out -/

/-- The physical arm on its way out or there, its item EXTENDED, its grant ended or about to be. -/
structure GoesOut (s : State) (ws : List Work) : Prop where
  arm : s.wsq.arm = some .extending ∨ s.wsq.arm = some .extended
  takes : s.armTakes = true
  pruner : s.stu.prunerAdm = none
  load : s.stu.load.weeder = itemExtended s.profile
  works : ∀ w ∈ ws, w = .moveStarted .weeder ∨ w = .reload .weeder ∨ w = .arm .extended ∨ w = .evalOne .pruner
  grant : s.stu.weederAdm = none ∨ (s.stu.weederAdm = some .granted ∧ Work.moveStarted .weeder ∈ ws)

theorem GoesOut.step {w : Work} {ws : List Work} (h : GoesOut s (w :: ws)) : GoesOut (handle w s).1 ((handle w s).2 ++ ws) := by
  obtain ⟨arm, takes, pruner, load, works, grant⟩ := h
  obtain ⟨head, rest⟩ := List.forall_mem_cons.1 works
  have waits : w ≠ .moveStarted .weeder →
      s.stu.weederAdm = none ∨ (s.stu.weederAdm = some .granted ∧ Work.moveStarted .weeder ∈ ws) :=
    fun n => grant.imp_right (And.imp_right fun m => (List.mem_cons.1 m).resolve_left n.symm)
  rcases head with rfl | rfl | rfl | rfl
  · rcases grant with g | ⟨g, -⟩
    · rw [handle_moveStarted_none (by simp [Stu.status, g])]
      exact ⟨arm, takes, pruner, load, rest, .inl g⟩
    · rw [handle_moveStarted_grant (r := .weeder) g]
      exact ⟨arm, takes, pruner, load, rest, .inl rfl⟩
  · have out : s.wsq.arm ≠ some .retracted := by rcases arm with a | a <;> rw [a] <;> decide
    rw [handle_reload_same s ((itemNow_weeder_out out).trans load.symm)]
    exact ⟨arm, takes, pruner, load, rest, waits (by simp)⟩
  · rw [handle_arm_extended takes]
    refine ⟨.inr rfl, takes, pruner, load, ?_, (waits (by simp)).imp_right (And.imp_right (List.mem_cons_of_mem _))⟩
    exact List.forall_mem_cons.2 ⟨.inr (.inl rfl), rest⟩
  · rw [handle_evalOne_none s (Stu.status_pruner_none pruner)]
    exact ⟨arm, takes, pruner, load, rest, waits (by simp)⟩

theorem run_goesOut {n : Nat} {ws : List Work} (h : GoesOut s ws) (o : (run n ws s).overrun = false) : GoesOut (run n ws s) [] := by
  rcases run_induct (P := GoesOut) (fun u w ws p => p.step) n ws s h with q | ⟨u, vs, -, e⟩
  · exact q
  · rw [e] at o; cases o

/-- Quiet hand-offs without a record make none. -/
theorem run_settles {n : Nat} {ws : List Work} (h : Calm none s) (q : ∀ w ∈ ws, w.quiet = true) (o : (run n ws s).overrun = false) :
    (run n ws s).stu.weederAdm = none := by
  rcases run_induct (P := Settling s none) (fun u w ws p => p.step) n ws s (.inl ⟨h, ⟨rfl, rfl, rfl, rfl⟩, q⟩)
    with (⟨calm, -⟩ | trip) | ⟨u, vs, -, e⟩
  · exact calm.weeder
  · exact trip.done.2.1
  · rw [e] at o; cases o

/-! ### The answer -/

/-- The state in which the weeder has been told of its grant: a DEFERRED entry has left the queue (R118). -/
def State.told (s : State) : State := { s with wsq := s.wsq.dropDeferred }

/-- A granted weeder that is told goes out if the drive condition still holds, and withdraws otherwise (R118). -/
theorem handle_admitted_grant (g : s.stu.weederAdm = some .granted) : handle (.answer .weeder .admitted) s =
    (s.told, if s.drives && s.driveTerms.none && s.armNow == some .retracted then [.arm .extending] else [.withdraw .weeder]) := by
  simp only [handle, wsqAnswer, g]
  split
  · next h => cases h
  · split <;> rfl

/-- The state of an arm that has just been sent out. -/
def State.sentOut (s : State) : State := { s with wsq := { s.wsq with arm := some .extending, deadline := s.armDeadline } }

theorem handle_arm_extending (t : s.armTakes = true) : handle (.arm .extending) s =
    (s.sentOut, [.moveStarted .weeder, .reload .weeder] ++ if s.pins.armExt then [.arm .extended] else []) := by
  obtain ⟨d, m⟩ := armTakes_iff.1 t
  simp [handle, wsqArm, d, m, State.sentOut]

/-- The state of a simulated arm that has just been sent out. -/
def State.simSentOut (s : State) : State :=
  { s with wsq := { s.wsq with simArm := .extending, simDue := some (s.time.now + Config.simulatedMove) } }

theorem handle_arm_extending_sim (d : s.drives = true) (m : s.simMotion = true) :
    handle (.arm .extending) s = (s.simSentOut, [.moveStarted .weeder, .reload .weeder]) := by
  simp [handle, wsqArm, d, m, State.simSentOut]

theorem Calm.drop {t : State} (h : Calm (some .granted) s) (e : t.stu = s.stu.dropRecord .weeder) (m : t.mode ≠ .startup) :
    Calm none t where
  free := by rw [e]; exact h.free
  live := m
  weeder := by rw [e]; rfl
  idle := by decide
  pruner := by rw [e]; exact h.pruner
  load := fun g => by cases g

/-- The drive condition holds in a running pass alone, in which the blocks drive (R117). -/
theorem drives_of_driveTerms (h : s.driveTerms.none = true) : s.drives = true := by
  have run : s.running = true := by
    by_contra r
    rw [driveTerms_fail (.inl (by simpa using r))] at h
    cases h
  have p : s.psc.mode = .pass := beq_iff_eq.1 (Bool.and_eq_true_iff.1 run).1
  simp [State.drives, State.mode, p]

/-- A granted weeder sent out (R24, R118): its grant ends, and a physical arm is on its way out or there. -/
theorem run_sentOut {n : Nat} (h : Calm (some .granted) s) (d : s.drives = true)
    (o : (run n [.arm .extending, .evalOne .pruner] s).overrun = false) :
    let t := run n [.arm .extending, .evalOne .pruner] s
    t.stu.weederAdm = none ∧ (s.simMotion = false →
      (t.wsq.arm = some .extending ∨ t.wsq.arm = some .extended) ∧ t.stu.load.weeder = itemExtended t.profile) := by
  cases sim : s.simMotion with
  | false =>
    have takes : s.armTakes = true := armTakes_iff.2 ⟨d, sim⟩
    obtain ⟨m, e⟩ := run_peel (handle_arm_extending takes) o
    rw [e] at o ⊢
    have start : GoesOut s.sentOut (([.moveStarted .weeder, .reload .weeder] ++ if s.pins.armExt then [.arm .extended] else []) ++
        [.evalOne .pruner]) :=
      ⟨.inl rfl, takes, h.pruner, h.load rfl, by split <;> simp, .inr ⟨h.weeder, by simp⟩⟩
    have out := run_goesOut start o
    exact ⟨out.grant.resolve_right fun g => absurd g.2 List.not_mem_nil, fun _ => ⟨out.arm, out.load⟩⟩
  | true =>
    obtain ⟨m, e⟩ := run_peel (handle_arm_extending_sim d sim) o
    rw [e] at o ⊢
    simp only [List.cons_append, List.nil_append] at o ⊢
    obtain ⟨m', e'⟩ := run_peel (handle_moveStarted_grant (s := s.simSentOut) (r := .weeder) h.weeder) o
    rw [e'] at o ⊢
    exact ⟨run_settles (h.drop rfl h.live) (by simp [Work.quiet]) o, fun n => by cases n⟩

/-- A granted weeder that is told (R24, R118): its grant ends, and its arm goes out where the drive condition holds. -/
theorem run_told {n : Nat} (h : Calm (some .granted) s)
    (o : (run n [.answer .weeder .admitted, .evalOne .pruner] s).overrun = false) :
    let t := run n [.answer .weeder .admitted, .evalOne .pruner] s
    t.stu.weederAdm = none ∧ (s.driveTerms.none = true → s.simMotion = false → s.wsq.arm = some .retracted →
      (t.wsq.arm = some .extending ∨ t.wsq.arm = some .extended) ∧ t.stu.load.weeder = itemExtended t.profile) := by
  have told : Calm (some .granted) s.told := ⟨h.free, h.live, h.weeder, h.idle, h.pruner, h.load⟩
  obtain ⟨m, e⟩ := run_peel (handle_admitted_grant h.weeder) o
  rw [e] at o ⊢
  split at o
  · next c =>
    have d : s.drives = true := (Bool.and_eq_true_iff.1 (Bool.and_eq_true_iff.1 c).1).1
    rw [if_pos c]
    obtain ⟨adm, out⟩ := run_sentOut told d o
    exact ⟨adm, fun _ sim _ => out sim⟩
  · next c =>
    rw [if_neg c]
    simp only [List.cons_append, List.nil_append] at o ⊢
    obtain ⟨m', e'⟩ := run_peel (s := s.told) (w := .withdraw .weeder) rfl o
    rw [e'] at o ⊢
    refine ⟨run_settles (told.drop rfl told.live) (by simp [Work.quiet, Requester.item]) o, fun terms sim arm => absurd ?_ c⟩
    rw [drives_of_driveTerms terms, terms, armNow_physical sim, arm]
    rfl

end Sys2Proof.Machine

/-! PROOFS. Settling O12: the results that trip, refuse and grant, and the hand-offs of admission. -/

namespace Sys2Proof.Machine

variable {s : State}

/-! ### A result that grants the weeder's record -/

/-- The state in which the weeder's record has just been granted. -/
def State.granted (s : State) : State := { s with stu := s.stu.setStatus .weeder .granted }

/-- The report of a granted posture: the item becomes EXTENDED, and what that brings about is quiet (R24). -/
theorem reload_granted (free : s.stu.band.stops = false) (live : s.mode ≠ .startup) (q : s.stu.prunerAdm = none) :
    Settling s.granted (some .granted) (handle (.reload .weeder) s.granted).1 (handle (.reload .weeder) s.granted).2 := by
  refine .inl ⟨⟨?_, (handle_opensNothing _ _).startup live, ?_, by decide, ?_, fun _ => ?load⟩, quiet_sameDrive rfl _, ?_⟩
  case load =>
    rw [handle_reload_weeder, itemNow_weeder_granted rfl, (handle_base _ _ rfl).profile]
  all_goals
    simp only [handle, stuReload, stuItem]
    repeat' split
  all_goals first | exact free | exact q | rfl | simp [Work.quiet]

/-- A weeder without a record that is told of a grant, and an evaluation without a record, change nothing. -/
theorem run_told_none {n : Nat} (w : s.stu.weederAdm = none) (q : s.stu.prunerAdm = none)
    (o : (run n [.answer .weeder .admitted, .evalOne .pruner] s).overrun = false) :
    run n [.answer .weeder .admitted, .evalOne .pruner] s = s := by
  obtain ⟨m, e⟩ := run_peel (handle_admitted_none (by rw [w]; decide)) o
  rw [e] at o ⊢
  obtain ⟨m', e'⟩ := run_peel (handle_evalOne_none s (Stu.status_pruner_none q)) o
  exact e'.trans (run_nil ..)

/-- A good result in NORMAL that grants the weeder's record: its ceiling, then the grant with what comes of it (R24). -/
theorem cascade_compute_granting {c : Cause} {a : Axes} (h : s.stu.held = some a) (p : s.stu.published.isSome = true)
    (b : s.stu.band = .normal) (w : s.stu.weederAdm = some .waiting) (d : s.admissible .weeder = true)
    (q : s.stu.prunerAdm = none) (k : (s.marginOf s.stu.load a).clipped.any = false)
    (t : s.profile.sTrip ≤ (s.marginOf s.stu.load a).sEff) (g : s.profile.sCaution ≤ (s.marginOf s.stu.load a).sEff) :
    let u := s.publish { s.result c a with c := ceilingOf s.profile (s.marginOf s.stu.load a).sEff }
    ∃ n, cascade [.compute c] s =
      run n ((handle (.reload .weeder) u.granted).2 ++ [.answer .weeder .admitted, .evalOne .pruner])
        (handle (.reload .weeder) u.granted).1 := by
  intro u
  have free : (s.publish (s.result c a)).stu.band.stops = false := congrArg Band.stops b
  have nq : u.stu.status .pruner ≠ some .waiting := by
    rw [Stu.status_pruner_none (u := u.stu) q]; decide
  rw [cascade_eq, run_one (handle_compute h p), Published.clipReport_none k]
  simp only [List.cons_append, List.nil_append]
  rw [run_leaf (handle_takeResult_normal (s.publish (s.result c a)) rfl b t g), run_leaf (handle_ceiling rfl free)]
  have grants : handle (.evalOne .weeder) u = (u.granted, [.reload .weeder, .answer .weeder .admitted]) :=
    handle_evalOne_grants w d
  refine ⟨999999999900 + 94, ?_⟩
  refine (run_one (n := 999999999900 + 96) (handle_evalWaiting_one (s := u) (.inr nq))).trans ?_
  refine (run_one (n := 999999999900 + 95) (ws := [.evalOne .pruner]) grants).trans ?_
  exact run_one (n := 999999999900 + 94) (ws := [.answer .weeder .admitted, .evalOne .pruner]) Prod.mk.eta.symm

/-- What such a result leaves: the record granted and ended, and a physical arm that goes out where the drive condition held and
the pass still runs. -/
theorem cascade_compute_grants {c : Cause} {a : Axes} (h : s.stu.held = some a) (p : s.stu.published.isSome = true)
    (m : s.mode ≠ .startup) (b : s.stu.band = .normal) (w : s.stu.weederAdm = some .waiting) (d : s.admissible .weeder = true)
    (q : s.stu.prunerAdm = none) (k : (s.marginOf s.stu.load a).clipped.any = false)
    (t : s.profile.sTrip ≤ (s.marginOf s.stu.load a).sEff) (g : s.profile.sCaution ≤ (s.marginOf s.stu.load a).sEff)
    (o : (cascade [.compute c] s).overrun = false) :
    let v := cascade [.compute c] s
    v.stu.weederAdm = none ∧
      (s.driveTerms.none = true → s.simMotion = false → s.wsq.arm = some .retracted → v.running = true →
        (v.wsq.arm = some .extending ∨ v.wsq.arm = some .extended) ∧ v.stu.load.weeder = itemExtended v.profile) := by
  obtain ⟨n, e⟩ := cascade_compute_granting (c := c) h p b w d q k t g
  have start := reload_granted (s := s.publish { s.result c a with c := ceilingOf s.profile (s.marginOf s.stu.load a).sEff })
    (congrArg Band.stops b) m q
  rw [e] at o ⊢
  obtain ⟨n', u, settled, e'⟩ := run_then (fun _ _ _ q => q.step) n _ _ _ start o
  rw [e'] at o ⊢
  rcases settled with ⟨calm, drive, -⟩ | trip
  · obtain ⟨adm, out⟩ := run_told calm o
    exact ⟨adm, fun terms sim arm _ => out (drive.terms ▸ terms) (drive.physical.trans sim) (drive.arm.trans arm)⟩
  · obtain ⟨run, weeder, pruner⟩ := trip.done
    rw [run_told_none weeder pruner o]
    exact ⟨weeder, fun _ _ _ r => by rw [run] at r; cases r⟩

/-! ### O12 -/

/-- Settles O12: a result that trips by the hand-offs after a trip, one that grants by those of a load change, the rest by the
equations of single hand-offs. -/
theorem lowMarginTrips : Obligations.LowMarginTrips := by
  refine ⟨fun s q x old hp hm hq ho hb => ?trips, fun s q x old hp hm hq ho hb => ?admits, fun s a p ha => ?handOffs⟩
  case trips =>
    intro r m hz he latched
    obtain ⟨band, trip, flag, latch, stops, ceiling, adm⟩ := cascade_compute_trips (s := s.arrival r) (c := .arrival) rfl
      (Option.isSome_iff_exists.2 ⟨old, ho⟩) hm hb he
    exact ⟨_, exec_arrival hp hm hq hz, band, trip, flag, latch, finish_driveEn_stops stops, ceiling, adm⟩
  case admits =>
    intro r m extended hz hk hc ht hw hr c
    have pub : (s.arrival r).stu.published.isSome = true := Option.isSome_iff_exists.2 ⟨old, ho⟩
    have free : (s.arrival r).stu.band.stops = false := congrArg Band.stops hb
    refine ⟨fun he => ?_, fun he => ⟨_, exec_arrival hp hm hq hz, fun o => ?_⟩⟩
    · have refused : (s.arrival r).admissible .weeder = false :=
        Bool.eq_false_iff.2 fun ok => absurd ((admissible_iff rfl).1 ok).2 (Int.not_le.2 he)
      rw [exec_arrival hp hm hq hz, cascade_compute_quiet (s := s.arrival r) (c := .arrival) rfl pub hb (.inr refused) hr hk ht hc]
      rfl
    · have admitted : (s.arrival r).admissible .weeder = true := (admissible_iff rfl).2 ⟨free, he⟩
      obtain ⟨adm, out⟩ := cascade_compute_grants (s := s.arrival r) (c := .arrival) rfl pub hm hb hw admitted hr hk ht hc o
      have profile := (cascade_base [.compute .arrival] (s.arrival r) rfl).profile
      exact ⟨adm, fun terms sim arm run => (out terms sim arm run).imp_right fun l => l.trans (congrArg itemExtended profile)⟩
  case handOffs =>
    intro clipped pair counted w h asked raised
    have hw : asked = _ := handle_ask_weeder p
    have hh : raised = _ := handle_ask_pruner p
    have vw : s.asksWeeder.verdict .weeder =
        if s.stu.band.stops = false ∧ s.profile.sAdmit ≤ w then .granted else .waiting := verdict_eq ha
    have vh : (s.asksPruner p).verdict .pruner =
        if s.stu.band.stops = false ∧ s.profile.sAdmit ≤ h then .granted else .waiting := verdict_eq ha
    refine ⟨by rw [hw, vw], by rw [hh, vh], fun g => ?_, fun g => ?_, fun r n => handle_evalOne_keeps (.inl n),
      fun r b => handle_evalOne_keeps (.inr (admissible_stops b)), fun wait free => ?_, handle_evalWaiting_both, fun r => rfl,
      fun r => ⟨fun g => ?_, fun g => ?_⟩⟩
    · rw [handle_reload_weeder, itemNow_weeder_granted g, hw]
    · rw [handle_reload_head, itemNow_head_granted g, hh]
    · by_cases e : s.profile.sAdmit ≤ w
      · rw [if_pos e, handle_evalOne_grants (r := .weeder) wait ((admissible_iff ha).2 ⟨free, e⟩)]
        rfl
      · have n : s.admissible .weeder = false := Bool.eq_false_iff.2 fun ok => e ((admissible_iff ha).1 ok).2
        rw [if_neg e, handle_evalOne_keeps (.inr n)]
        exact wait
    · rw [handle_moveStarted_grant g]
    · rw [handle_moveStarted_none g]

end Sys2Proof.Machine

/-! PROOFS. The output pins at the end of every row (R39, R121, R143, R154, R198). -/

namespace Sys2Proof.Machine

variable {s t : State}

/-! ### The pins follow the blocks -/

theorem live_pins {f : State → State} (h : live f s = .next t) (p : t.powered = true) : t.out = t.pinsOut := by
  unfold live at h
  split at h <;> cases h
  · rfl
  · contradiction

theorem serve_pins {f : Frame} {act : State → State} (h : serve f act s = .next t) (p : t.powered = true) :
    t.out = t.pinsOut := live_pins h p

theorem command_pins {kind : Nat} {tag : Byte} {payload : List Byte} {m : State → Bool} {l : Bool}
    {body : State → Except Reason Accepted} (h : command kind tag payload m l body s = .next t) (p : t.powered = true) :
    t.out = t.pinsOut := serve_pins h p

/-- Whatever the row, a part that is on ends it with its pins as the blocks drive them. -/
theorem exec_pins (i : Instr) (h : exec i s = .next t) (p : t.powered = true) : t.out = t.pinsOut := by
  cases i <;> simp only [exec] at h
  case powerOn => cases h; rfl
  case powerLoss =>
    cases h
    split at p
    · cases p
    · contradiction
  case unknownKind =>
    unfold execUnknownKind at h
    split at h
    · exact live_pins h p
    · exact serve_pins h p
  case reset =>
    unfold execReset at h
    exact serve_pins h p
  case resetLine | profileCheckDone | logScanDone | regScanDone | samplePeriod | staleTimerExpiry | lostTimerExpiry |
    recoveryExpiry | encoderTransition | speedRecord | postCapture | feelerCapture | armExt | armRet | armDeadlineExpiry |
    simArmMoveDone | headInpos | headDeadlineExpiry | simHeadMoveDone | phaseTimerExpiry | stepWaitExpiry | flowPulse |
    storeOperationBegin | recordWriteBegin | recordWriteAttemptDone | regProgramPartDone | profileWriteComplete |
    silenceExpiry | secondsTick | keyChange | validFrame | frameDiscard | frameGapTimeout | frameSent | byteReceived |
    ceilPeriodStart => exact live_pins h p
  all_goals exact command_pins h p

/-! ### The permit (R39, R40) -/

theorem Band.stops_eq_false_iff {b : Band} : b.stops = false ↔ b = .normal ∨ b = .caution := by
  cases b <;> simp [Band.stops]

theorem drives_iff : s.drives = true ↔ s.mode = .idle ∨ s.mode = .pass := by
  simp [State.drives]

theorem permit_eq (s : State) : s.permit = (s.drives && !s.stu.band.stops && !s.mlk.expired) := rfl

theorem permit_iff : s.permit = true ↔
    (s.mode = .idle ∨ s.mode = .pass) ∧ (s.stu.band = .normal ∨ s.stu.band = .caution) ∧ s.mlk.expired = false := by
  rw [permit_eq, Bool.and_eq_true, Bool.and_eq_true, drives_iff, Bool.not_eq_true', Bool.not_eq_true',
    Band.stops_eq_false_iff, and_assoc]

theorem drives_off (h : s.mode = .startup ∨ s.mode = .parked ∨ s.mode = .lockout) : s.drives = false := by
  rcases h with h | h | h <;> simp [State.drives, h]

theorem permit_off (h : s.drives = false) : s.permit = false := by
  rw [permit_eq, h]
  rfl

/-! ### A valid frame (R200, R203) -/

/-- The state in which a valid frame has been received and held behind those held before. -/
def State.receiving (s : State) (f : Frame) : State :=
  let u := ({ s with mlk := { s.mlk with lastByteAt := s.time.now, rx := .hunting } } : State).heard
  { u with mlk := { u.mlk with rxBuf := s.mlk.rxBuf ++ [f] } }

theorem handle_frameIn_held {f : Frame} (room : s.mlk.rxBuf.length < 4) :
    handle (.frameIn f) { s with mlk := { s.mlk with lastByteAt := s.time.now, rx := .hunting } } = (s.receiving f, []) :=
  if_pos room

theorem exec_validFrame_held {k tag : Byte} {p : List Byte} (hp : s.powered = true) (hl : p.length ≤ 120)
    (room : s.mlk.rxBuf.length < 4) :
    exec (.validFrame k tag p) s = .next (s.receiving ⟨k, tag, p⟩).finish := by
  have held : cascade [.frameIn ⟨k, tag, p⟩] _ = s.receiving ⟨k, tag, p⟩ := run_leaf (handle_frameIn_held room)
  simp only [exec, execValidFrame]
  rw [live_on hp, if_neg (Nat.not_lt.2 hl), State.received, held]

/-- Settles O16: the pin is the permit at the end of every row, and a frame heard ends the expired silence. -/
theorem drivePermit : Obligations.DrivePermit := by
  refine ⟨fun i s t h p => ?terms, fun s _ hm => permit_off (drives_off hm), fun k tag p s hp hl hm hb room => ?frame,
    fun s n => rfl⟩
  case terms =>
    rw [exec_pins i h p]
    exact permit_iff
  case frame => exact ⟨_, exec_validFrame_held hp hl room, permit_iff.2 ⟨hm, hb, rfl⟩⟩

/-! ### The actuator outputs (R39, R121, R143, R154, R198) -/

theorem Cutters.gate_true (c : Cutters) : Cutters.gate true c = c := by
  cases c
  rfl

theorem Cutters.gate_false (c : Cutters) : Cutters.gate false c = Cutters.off := rfl

theorem Cutters.gate_off (on : Bool) : Cutters.gate on Cutters.off = Cutters.off := by
  cases on <;> rfl

theorem Cutters.gate_ne_off {on : Bool} {c : Cutters} (h : Cutters.gate on c ≠ Cutters.off) : on = true := by
  cases on with
  | true => rfl
  | false => exact absurd (gate_false c) h

theorem running_drives (h : s.running = true) : s.drives = true := by
  rw [State.running, Bool.and_eq_true] at h
  exact drives_iff.2 (.inr (of_decide_eq_true h.1))

theorem simTools_off : s.simTools = false ↔ s.rehearsal < 2 := by
  rw [State.simTools, decide_eq_false_iff_not, Nat.not_le]

theorem simMotion_off : s.simMotion = false ↔ s.rehearsal ≠ 3 := by
  rw [State.simMotion, beq_eq_false_iff_ne]

/-- Where the part drives nothing, every actuator output is off and the permit released. -/
theorem pinsOut_quiet (h : s.drives = false) : s.pinsOut.quiet = true := by
  simp [Out.quiet, State.pinsOut, h, permit_off h, Cutters.gate_false, Six.map, Six.all]

/-- The cutters of a run in the DWELL of a step, in a RUNNING pass. -/
theorem cuttersCommanded_dwell {r : Run} {st : Step} (run : s.prs.run = some r) (phase : r.phase = .dwell)
    (going : r.suspended = false) (step : s.prs.step r = some st) (live : s.running = true) :
    s.cuttersCommanded = st.cutters := by
  simp [State.cuttersCommanded, run, phase, going, step, live, Cutters.gate_true]

/-- A cutter is commanded on in the DWELL of a run's step alone. -/
theorem cuttersCommanded_ne_off (h : s.cuttersCommanded ≠ Cutters.off) : s.running = true ∧
    ∃ r st, s.prs.run = some r ∧ r.phase = .dwell ∧ r.suspended = false ∧ s.prs.step r = some st := by
  unfold State.cuttersCommanded at h
  split at h
  · next r run =>
    have gate := Cutters.gate_ne_off h
    simp only [Bool.and_eq_true, beq_iff_eq, Bool.not_eq_true'] at gate
    obtain ⟨⟨phase, going⟩, live⟩ := gate
    cases step : s.prs.step r with
    | none => exact absurd (by rw [step]; exact Cutters.gate_off _) h
    | some st => exact ⟨live, r, st, run, phase, going, step⟩
  · exact absurd rfl h

theorem pinsOut_cut (h : s.drives = true) (code : s.rehearsal < 2) : s.pinsOut.cut = s.cuttersCommanded := by
  simp only [State.pinsOut, h, simTools_off.2 code]
  exact Cutters.gate_true _

theorem pinsOut_cut_ne_off (h : s.pinsOut.cut ≠ Cutters.off) : s.rehearsal < 2 ∧ s.pinsOut.cut = s.cuttersCommanded := by
  have gate := Cutters.gate_ne_off h
  rw [Bool.and_eq_true, Bool.not_eq_true', simTools_off] at gate
  exact ⟨gate.2, pinsOut_cut gate.1 gate.2⟩

theorem armIsOut_iff {a : Option ArmState} : armIsOut a = true ↔ a = some .extending ∨ a = some .extended := by
  rcases a with _ | a
  · simp [armIsOut]
  · cases a <;> simp [armIsOut]

theorem armIsDrivenIn_iff {a : Option ArmState} : armIsDrivenIn a = true ↔ a = some .retracting ∨ a = some .stalled := by
  rcases a with _ | a
  · simp [armIsDrivenIn]
  · cases a <;> simp [armIsDrivenIn]

theorem pinsOut_armOut : s.pinsOut.armOut = true ↔
    s.drives = true ∧ s.rehearsal ≠ 3 ∧ (s.wsq.arm = some .extending ∨ s.wsq.arm = some .extended) := by
  rw [← armIsOut_iff, ← simMotion_off, ← and_assoc]
  simp [State.pinsOut]

theorem pinsOut_armIn : s.pinsOut.armIn = true ↔
    s.drives = true ∧ s.rehearsal ≠ 3 ∧ (s.wsq.arm = some .retracting ∨ s.wsq.arm = some .stalled) := by
  rw [← armIsDrivenIn_iff, ← simMotion_off, ← and_assoc]
  simp [State.pinsOut]

/-- The arm is never driven out and in at once. -/
theorem pinsOut_arm_one_way (s : State) : (s.pinsOut.armOut && s.pinsOut.armIn) = false := by
  rw [Bool.and_eq_false_imp]
  intro out
  obtain ⟨-, -, out⟩ := pinsOut_armOut.1 out
  rw [Bool.eq_false_iff, Ne, pinsOut_armIn]
  rintro ⟨-, -, inward⟩
  rcases out with e | e <;> simp [e] at inward

/-- A section's output, from its state. -/
theorem valve_iff {x : Section} : (s.drives && x.isOpen && !s.simValves) = true ↔
    (s.mode = .idle ∨ s.mode = .pass) ∧ s.rehearsal = 0 ∧ x = .opened := by
  have opened : x.isOpen = true ↔ x = .opened := by cases x <;> simp [Section.isOpen]
  have code : (!s.simValves) = true ↔ s.rehearsal = 0 := by simp [State.simValves]
  rw [Bool.and_eq_true, Bool.and_eq_true, drives_iff, opened, code, and_assoc, and_comm (a := x = .opened)]

/-- Settles O18: the pins are those of the blocks at the end of every row, each read by its own rule. -/
theorem actuatorOutputs : Obligations.ActuatorOutputs := by
  intro i s t h p valve
  rw [exec_pins i h p]
  refine ⟨fun idle pass => ?quiet, pinsOut_arm_one_way t, pinsOut_armOut, pinsOut_armIn, fun on => ?cut,
    fun r st run phase going step live code => ?dwell, valve_iff, valve_iff, valve_iff, valve_iff, valve_iff, valve_iff⟩
  case quiet => exact pinsOut_quiet (Bool.eq_false_iff.2 fun d => (drives_iff.1 d).elim idle pass)
  case cut =>
    obtain ⟨code, e⟩ := pinsOut_cut_ne_off on
    rw [e] at on ⊢
    obtain ⟨live, r, st, run, phase, going, step⟩ := cuttersCommanded_ne_off on
    exact ⟨live, code, r, st, run, phase, going, step, cuttersCommanded_dwell run phase going step live⟩
  case dwell => rw [pinsOut_cut (running_drives live) code, cuttersCommanded_dwell run phase going step live]

end Sys2Proof.Machine

/-! PROOFS. RECOVERY_EXPIRY and CLEAR_LATCH: the band back at CAUTION (R34, R36). -/

namespace Sys2Proof.Machine

variable {s : State}

/-! ### The band given back -/

/-- The band at CAUTION, its trip record and its recovery timer gone. -/
def State.cautioned (s : State) : State :=
  { s with stu := { s.stu with band := .caution, trip := none, recovery := none } }

/-- CAUTION given to the blocks with the result `r` published: the ceiling follows it, the sections are closed. -/
def State.givenBack (s : State) (r : Published) : State :=
  { s with
    stu := { s.stu with band := .caution, trip := none, recovery := none
                        published := some { r with c := ceilingOf s.profile r.margin.sEff } }
    spg := { s.spg with sections := Six.all (.closed .notRunning) } }

theorem run_givenBack {n : Nat} {r : Published} (h : s.stu.published = some r) (off : s.running = false) :
    run (n + 3) [.ceiling, .bandGiven] s.cautioned = s.givenBack r := by
  have closed (q : Published) : ((s.cautioned.publish q).running && (s.cautioned.publish q).selected .spray) = false :=
    Bool.and_eq_false_iff.2 (.inl off)
  rw [run_leaf (handle_ceiling (s := s.cautioned) h rfl), run_one (w := .bandGiven) rfl, List.append_nil,
    run_leaf (handle_decide_off _ (closed _)), run_nil]
  rfl

/-! ### RECOVERY_EXPIRY (R34) -/

theorem handle_recover_due {start : Nat} (b : s.stu.band = .tripped) (h : s.stu.recovery = some start)
    (due : start + s.profile.recoverTime.toNat ≤ s.time.now) :
    handle .recover s = (s.cautioned, [.ceiling, .bandGiven]) := by
  simp [handle, stuRecover, b, h, due, State.cautioned]

theorem exec_recoveryExpiry {start : Nat} {r : Published} (hp : s.powered = true) (b : s.stu.band = .tripped)
    (h : s.stu.recovery = some start) (hr : s.stu.published = some r) (off : s.running = false) :
    exec .recoveryExpiry s = .next ((s.advance (start + s.profile.recoverTime.toNat)).givenBack r).finish := by
  let u := s.advance (start + s.profile.recoverTime.toNat)
  have due : handle .recover u = (u.cautioned, [.ceiling, .bandGiven]) :=
    handle_recover_due b h (Nat.le_max_right _ _)
  have given : cascade [.recover] u = u.givenBack r := by
    rw [cascade_eq, run_one due]
    exact run_givenBack hr off
  simp only [exec, execRecoveryExpiry]
  rw [live_on hp]
  simp only [h]
  rw [given]

/-! ### CLEAR_LATCH (R36) -/

section ClearLatch

variable {tag : Byte} (hp : s.powered = true) (hm : s.mode = .idle ∨ s.mode = .pass)
  (ht : s.takes ⟨0x12#8, tag, []⟩ = true)

include hp hm ht

theorem exec_clearLatch_noKey (key : s.pins.service = false) :
    exec (.clearLatch tag []) s = .next ((takeFrame ⟨0x12#8, tag, []⟩ s).refusedWith ⟨0x12#8, tag, []⟩ .keyRequired) := by
  refine command_refused (kind := 0x12) hp ht (takeFrame_inIdlePass _ hm) rfl ?_
  simp [key]

theorem exec_clearLatch_noLatch (key : s.pins.service = true) (b : s.stu.band ≠ .latched) :
    exec (.clearLatch tag []) s = .next ((takeFrame ⟨0x12#8, tag, []⟩ s).refusedWith ⟨0x12#8, tag, []⟩ .band) := by
  refine command_refused (kind := 0x12) hp ht (takeFrame_inIdlePass _ hm) rfl ?_
  simp [key, b]

theorem exec_clearLatch_poor {r : Published} (key : s.pins.service = true) (b : s.stu.band = .latched)
    (hr : s.stu.published = some r) (poor : r.sampleState ≠ .fresh ∨ r.margin.sEff < s.profile.sTrip + s.profile.hyst) :
    exec (.clearLatch tag []) s = .next ((takeFrame ⟨0x12#8, tag, []⟩ s).refusedWith ⟨0x12#8, tag, []⟩ .band) := by
  refine command_refused (kind := 0x12) hp ht (takeFrame_inIdlePass _ hm) rfl ?_
  simp [key, b, hr, Profile.recoveryLevel, poor]

theorem exec_clearLatch_good {r : Published} (key : s.pins.service = true) (b : s.stu.band = .latched)
    (hr : s.stu.published = some r) (fresh : r.sampleState = .fresh)
    (good : s.profile.sTrip + s.profile.hyst ≤ r.margin.sEff) (off : s.running = false) :
    exec (.clearLatch tag []) s = .next (((takeFrame ⟨0x12#8, tag, []⟩ s).givenBack r).replied ⟨0x12#8, tag, []⟩
      (.clearLatch .caution r.margin.sEff)) := by
  let u := takeFrame ⟨0x12#8, tag, []⟩ s
  have given : cascade [.ceiling, .bandGiven] u.cautioned = u.givenBack r := by
    rw [cascade_eq]
    exact run_givenBack (by simpa [u] using hr) (by simpa [u, State.running, State.inPass] using off)
  refine (command_ok (kind := 0x12) (a := (u.cautioned, [.ceiling, .bandGiven], fun t => .clearLatch t.stu.band r.margin.sEff))
    hp ht (takeFrame_inIdlePass _ hm) rfl ?_).trans ?_
  · simp [key, b, hr, Profile.recoveryLevel, fresh, good, u, State.cautioned]
  · simp only [given]
    rfl

end ClearLatch

theorem takeFrame_givenBack (f : Frame) (r : Published) : (takeFrame f s).givenBack r =
    { takeFrame f s with
      stu := { s.stu with band := .caution, trip := none, recovery := none
                          published := some { r with c := ceilingOf s.profile r.margin.sEff } }
      spg := { s.spg with sections := Six.all (.closed .notRunning) } } := by
  simp only [State.givenBack, takeFrame_stu, takeFrame_spg, takeFrame_profile]

/-- Settles O14: the recovery expiry and CLEAR_LATCH give CAUTION back by the same two hand-offs. -/
theorem recoveryAndClearLatch : Obligations.RecoveryAndClearLatch := by
  refine ⟨fun s start r hp b h hr off => exec_recoveryExpiry hp b h hr off, ?_⟩
  intro tag s hp hm f ht u
  refine ⟨exec_clearLatch_noKey hp hm ht, exec_clearLatch_noLatch hp hm ht, fun r key b hr =>
    ⟨exec_clearLatch_poor hp hm ht key b hr, fun fresh good off => ?_⟩⟩
  rw [← takeFrame_givenBack]
  exact exec_clearLatch_good hp hm ht key b hr fresh good off

end Sys2Proof.Machine

/-! PROOFS. STATUS, PROFILE_READ, STAB_READ and TANK_READ (R42, R172, R204, R207). -/

namespace Sys2Proof.Machine

variable {s : State}

/-! ### A command that reads -/

/-- A command that reads and passes its tests: its reply, as the state stands with its frame taken. -/
theorem command_reads {kind : Nat} {tag : Byte} {payload : List Byte} {inMode : State → Bool} {l : Bool}
    (r : State → OkResult) (hp : s.powered = true) (ht : s.takes ⟨BitVec.ofNat 8 kind, tag, payload⟩ = true)
    (hm : inMode (takeFrame ⟨BitVec.ofNat 8 kind, tag, payload⟩ s) = true) (hl : l = true) :
    command kind tag payload inMode l (fun u => reads u (r u)) s =
      .next ((takeFrame ⟨BitVec.ofNat 8 kind, tag, payload⟩ s).replied ⟨BitVec.ofNat 8 kind, tag, payload⟩
        (r (takeFrame ⟨BitVec.ofNat 8 kind, tag, payload⟩ s))) :=
  command_ok (a := (_, [], fun _ => r _)) hp ht hm hl rfl

/-! ### What taking a frame leaves as it is -/

section Taken

variable (f : Frame) (s : State)

theorem takeFrame_running : (takeFrame f s).running = s.running := by
  simp only [State.running, State.inPass, takeFrame_psc]

theorem takeFrame_inPass : (takeFrame f s).inPass = s.inPass := by
  simp only [State.inPass, takeFrame_psc]

theorem takeFrame_lock : (takeFrame f s).lock = s.lock := by
  simp only [State.lock, takeFrame_mpu, takeFrame_pins]

theorem takeFrame_permission (t : Tool) : (takeFrame f s).permission t = s.permission t := by
  simp only [State.permission, takeFrame_mpu]

theorem takeFrame_sections : (takeFrame f s).pinsOut.sections = s.pinsOut.sections := by
  simp only [State.pinsOut, State.openSections, State.drives, State.mode, State.simValves, State.rehearsal, State.inPass,
    takeFrame_psc, takeFrame_spg]
  rfl

end Taken

/-! ### STATUS (R204) -/

theorem exec_status {tag : Byte} (hp : s.powered = true) (ht : s.takes ⟨0x01#8, tag, []⟩ = true) :
    let u := takeFrame ⟨0x01#8, tag, []⟩ s
    exec (.status tag []) s = .next (u.replied ⟨0x01#8, tag, []⟩ (.status u.statusReply)) :=
  command_reads (kind := 0x01) (fun u => .status u.statusReply) hp ht rfl rfl

theorem Lgs.busy_iff {l : Lgs} : l.busy = true ↔ l.op ≠ none ∨ l.waiting ≠ [] := by
  simp [Lgs.busy, Option.isSome_iff_ne_none]

/-- Taking its frame changes what STATUS reports of the silence timer and of the permit, which hangs on it, and nothing
else. -/
theorem takeFrame_statusReply (f : Frame) : (takeFrame f s).statusReply =
    { s.statusReply with driveEn := (takeFrame f s).permit, silenceExpired := (takeFrame f s).mlk.expired } := by
  simp only [State.statusReply, State.sEff, takeFrame_mode, takeFrame_phase, takeFrame_noProfile, takeFrame_lgs,
    takeFrame_stu, takeFrame_inPass, takeFrame_running, takeFrame_lock, takeFrame_cdu, takeFrame_clock, takeFrame_lostNotices]

/-! ### PROFILE_READ (R207) -/

theorem exec_profileRead {tag : Byte} (hp : s.powered = true) (hm : s.mode = .idle ∨ s.mode = .pass)
    (ht : s.takes ⟨0x09#8, tag, []⟩ = true) :
    exec (.profileRead tag []) s = .next ((takeFrame ⟨0x09#8, tag, []⟩ s).replied ⟨0x09#8, tag, []⟩
      (.profileRead (!s.noProfile) s.noProfile s.lgs.profilePending s.profile.values)) := by
  refine (command_reads (kind := 0x09)
    (fun u => .profileRead (!u.noProfile) u.noProfile u.lgs.profilePending u.profile.values) hp ht
    (takeFrame_inIdlePass _ hm) rfl).trans ?_
  simp only [takeFrame_noProfile, takeFrame_lgs, takeFrame_profile]

/-! ### STAB_READ (R39, R41, R42) -/

/-- The result of STAB_READ in a state. -/
def State.stabReply (s : State) : StabReply :=
  { published := s.stu.published, band := s.stu.band, trip := s.stu.trip
    recovery := s.stu.recovery.map fun t => s.time.now - t
    load := s.stu.load, weeder := s.stu.weederAdm, pruner := s.stu.prunerAdm, driveEn := s.permit
    failing := s.failingTerms, duty := s.duty }

theorem exec_stabRead {tag : Byte} (hp : s.powered = true) (hm : s.mode = .idle ∨ s.mode = .pass)
    (ht : s.takes ⟨0x10#8, tag, []⟩ = true) :
    let u := takeFrame ⟨0x10#8, tag, []⟩ s
    exec (.stabRead tag []) s = .next (u.replied ⟨0x10#8, tag, []⟩ (.stabRead u.stabReply)) :=
  command_reads (kind := 0x10) (fun u => .stabRead u.stabReply) hp ht (takeFrame_inIdlePass _ hm) rfl

theorem failingTerms_live (h : s.mode = .idle ∨ s.mode = .pass) :
    s.failingTerms = ⟨false, s.stu.band.stops, s.mlk.expired⟩ := by
  rcases h with h | h <;> simp [State.failingTerms, h]

theorem duty_released (h : s.permit = false) : s.duty = 0 := by
  rw [State.duty, h]
  rfl

/-! ### TANK_READ (R172) -/

/-- The result of TANK_READ in a state. -/
def State.tankReply (s : State) : TankReply :=
  { tank := s.spg.tank, overrun := s.spg.overrunVolume, accumulator := s.spg.acc
    pendingVolume := s.spg.acc / Spg.flowUnit s.profile, flowK := s.profile.flowK, sections := s.spg.sections
    driven := s.pinsOut.sections, reserved := s.spg.reserved
    roomWait := s.spg.openRec.any fun r => r.roomWait
    speed := s.odu.speed, permission := s.permission .spray, openRec := s.spg.openRec }

theorem exec_tankRead {tag : Byte} (hp : s.powered = true) (hm : s.mode = .idle ∨ s.mode = .pass)
    (ht : s.takes ⟨0x19#8, tag, []⟩ = true) :
    let u := takeFrame ⟨0x19#8, tag, []⟩ s
    exec (.tankRead tag []) s = .next (u.replied ⟨0x19#8, tag, []⟩ (.tankRead u.tankReply)) :=
  command_reads (kind := 0x19) (fun u => .tankRead u.tankReply) hp ht (takeFrame_inIdlePass _ hm) rfl

/-- TANK_READ's result hangs on nothing that taking its frame changes. -/
theorem takeFrame_tankReply (f : Frame) : (takeFrame f s).tankReply = s.tankReply := by
  simp only [State.tankReply, takeFrame_spg, takeFrame_profile, takeFrame_odu, takeFrame_sections, takeFrame_permission]

/-- Settles O52: each read replies with the state as it stands when its frame has been taken, which changes the link alone. -/
theorem statusProfileStabilityAndTankRead : Obligations.StatusProfileStabilityAndTankRead := by
  refine ⟨⟨?status, fun tag s hp hm => exec_profileRead hp hm⟩, ?reads⟩
  case status =>
    intro tag s hp f ht u
    refine ⟨_, exec_status hp ht, ?_⟩
    rw [takeFrame_statusReply]
    refine ⟨rfl, ?phase, rfl, rfl, rfl, rfl, fun p hc => ?c, fun hc => ?noC, rfl, ?running, rfl, Lgs.busy_iff, rfl, rfl, rfl, rfl,
      rfl, rfl, rfl⟩
    case phase => simp only [State.statusReply, beq_iff_eq]
    case running =>
      simp only [State.statusReply, State.inPass, beq_iff_eq]
      rfl
    case c | noC => simp [State.statusReply, hc]
  case reads =>
    intro tag s hp hm f u g v
    refine ⟨fun ht => ⟨_, exec_stabRead hp hm ht, ?_⟩, fun ht => ⟨_, exec_tankRead hp hm ht, ?_⟩⟩
    · have stu : u.stu = s.stu := takeFrame_stu f s
      have terms : u.failingTerms = ⟨false, u.stu.band.stops, u.mlk.expired⟩ :=
        failingTerms_live (by rw [takeFrame_mode]; exact hm)
      rw [stu] at terms
      refine ⟨congrArg Stu.published stu, congrArg Stu.band stu, congrArg Stu.trip stu, ?_, congrArg Stu.load stu,
        congrArg Stu.weederAdm stu, congrArg Stu.prunerAdm stu, rfl, terms, duty_released⟩
      simp only [State.stabReply, takeFrame_stu, takeFrame_time]
    · rw [takeFrame_tankReply]
      exact ⟨rfl, rfl, rfl, rfl, rfl, rfl, rfl, rfl, Option.any_eq_true _ _, rfl, rfl, rfl⟩

end Sys2Proof.Machine

/-! PROOFS. What each hand-off leaves as it is of the Odometry Unit, the trunk list, the pruner, the Spray Gate and the log's
halt. -/

namespace Sys2Proof.Machine

/-- The hand-offs that can change the Odometry Unit. -/
def Work.changesOdu : Work → Bool
  | .reverseTest _ | .profileTaken _ _ => true
  | _ => false

/-- The hand-offs that can change the trunk list. -/
def Work.changesTtr : Work → Bool
  | .clearWeeder _ | .purge | .trunksEnd | .trunksDrop _ | .outcome _ _ => true
  | _ => false

/-- The hand-offs that can change the run context. -/
def Work.changesRun : Work → Bool
  | .startRun _ | .enterPhase _ | .phaseEnd | .endRun _ | .answer .pruner _ | .permission .pruner | .prunerStop
  | .prunerResume | .prunerEnd _ => true
  | _ => false

/-- The hand-offs that can change the outcome counts. -/
def Work.changesCounts : Work → Bool
  | .outcome _ _ | .trunkLost _ _ => true
  | _ => false

/-- The hand-offs that can disarm the pruner. -/
def Work.changesArmed : Work → Bool
  | .endRun _ | .haltDone | .prunerEnd _ => true
  | _ => false

/-- The hand-offs that can change the pruner's FAULT. -/
def Work.changesPrunerFault : Work → Bool
  | .prunerFault | .prunerEnd _ => true
  | _ => false

/-- The hand-offs that can change the Spray Gate. -/
def Work.changesSpg : Work → Bool
  | .decide | .permission .spray | .seek | .takeOff | .sprayEntry | .closeRecord | .sprayStop | .roomReport
  | .rpcChanged _ => true
  | _ => false

/-- What a hand-off leaves as it is beside what `Leaves` says. -/
structure Keeps (w : Work) (s t : State) : Prop where
  odu : w.changesOdu = false → t.odu = s.odu
  ttr : w.changesTtr = false → t.ttr = s.ttr
  run : w.changesRun = false → t.prs.run = s.prs.run
  counts : w.changesCounts = false → t.prs.counts = s.prs.counts
  armed : w.changesArmed = false → t.prs.armed = s.prs.armed
  fault : w.changesPrunerFault = false → t.prs.fault = s.prs.fault
  spg : w.changesSpg = false → t.spg = s.spg
  halted : w ≠ .halt → t.lgs.halted = s.lgs.halted

theorem Keeps.of_free {w : Work} {s t : State} (h : t = { s with freeCount := t.freeCount }) : Keeps w s t := by
  rw [h]
  constructor <;> exact fun _ => rfl

theorem Keeps.of_spg {w : Work} {s t : State} (c : w.changesSpg = true) (h : { t with spg := s.spg } = s) : Keeps w s t := by
  constructor
  case spg => rw [c]; exact fun e => Bool.noConfusion e
  all_goals rw [← h]; exact fun _ => rfl

theorem handle_keeps (w : Work) (s : State) : Keeps w s (handle w s).1 := by
  cases w
  case occur f d =>
    simp only [handle, cduOccur]
    constructor <;> simp
  case majorFlag c o m =>
    simp only [handle, cduMajorFlag]
    repeat' split
    all_goals constructor <;> simp
  case answer r a =>
    cases r <;> cases a <;> simp only [handle, wsqAnswer, prsAnswer]
    all_goals
      repeat' split
      all_goals constructor <;> first | exact fun _ => rfl | exact fun h => absurd h Bool.noConfusion
  case permission t =>
    cases t <;> simp only [handle, wsqDrive, prsPermission, spgDecide]
    all_goals
      repeat' split
      all_goals constructor <;> first | exact fun _ => rfl | exact fun h => absurd h Bool.noConfusion
  case mapMove => exact .of_free (arrange_eq _ _ _)
  case issue p =>
    simp only [handle, prsIssue, State.setHead, State.sendTargets]
    repeat' split
    all_goals constructor <;> exact fun _ => rfl
  case takeOff =>
    simp only [handle, spgTakeOff]
    split
    · next hc => exact .of_spg rfl (charge_spec hc).1
    · exact .of_spg rfl rfl
  case seek =>
    simp only [handle, spgSeek, spgGrant]
    repeat' split
    all_goals first
      | exact .of_spg rfl rfl
      | exact .of_spg rfl (congrArg (fun u : State => { u with spg := s.spg }) (chargePending_spec _ _).1)
  all_goals
    simp only [handle, cduMajor, cduLockout, stuCompute, stuTakeResult, stuCeiling, stuEvalWaiting, stuEvaluate,
      stuTrip, stuBandGiven, stuRecover, stuReload, stuTankReport, stuItem, stuAsk, stuWithdraw, stuMoveStarted, stuSensorFault,
      stuProfile, oduRpcChanged, oduReverseTest, ttrClearWeeder, ttrPurge, ttrEnd, ttrDrop, mpuMoveCursor, mpuExit, mpuEnter,
      mpuMissTest, mpuBarredTest, mpuActQuery, mpuEnd, pscSuspend, pscEnd, pscDropFields, wsqDrive, wsqFire, wsqFireEnd,
      wsqImmediate, wsqLift, wsqQueueTrunk, wsqQueueFull, wsqArm, wsqWithheld, wsqTrip, wsqStop, wsqEnd, wsqOverflow, wsqRebuild,
      prsRest, prsHeadDone, prsConsider, prsStartRun, prsEnterPhase, prsPhaseEnd, prsEndRun, prsOutcome, prsSkipAll,
      prsHaltDone, prsTrip, prsFault, prsStop, prsResume, prsEnd, prsTrunkLost,
      spgSeekForFlow, spgDecide, spgEntry, spgClose, spgStop, spgRoomReport, lgsStage, lgsArbiter, lgsHalt,
      lgsNearFull, lgsStartReports, mlkStartEndTest, mlkStartEnd, mlkFrameIn, mlkDiscard]
    repeat' split
    all_goals constructor <;> first | exact fun _ => rfl | exact fun h => absurd h Bool.noConfusion | exact fun h => absurd rfl h

end Sys2Proof.Machine

/-! PROOFS. The bay window as far as its bays' places go, and the lengths of the lists, at every hand-off (R52, R57, R67, R111). -/

namespace Sys2Proof.Machine

variable {s t : State}

/-! ### The places of the bays -/

/-- A bay's index and place, which nothing but LOAD_BAYS and the end of the window changes. -/
def Bay.place (b : Bay) : Nat × Nat × Nat := (b.index, b.start, b.length)

/-- The places of the window, in its order. -/
def Mpu.places (m : Mpu) : List (Nat × Nat × Nat) := m.window.map Bay.place

theorem places_map {m : Mpu} {f : Bay → Bay} (h : ∀ b, (f b).place = b.place) : (m.window.map f).map Bay.place = m.places := by
  rw [List.map_map]
  exact List.map_congr_left fun b _ => h b

theorem places_mapBay {m : Mpu} {i : Nat} {f : Bay → Bay} (h : ∀ b, (f b).place = b.place) : (m.mapBay i f).places = m.places := by
  refine places_map fun b => ?_
  split
  · exact h b
  · rfl

@[simp] theorem setCursor_window (m : Mpu) (n : CursorName) (c : Cursor) : (m.setCursor n c).window = m.window := by
  rcases n with _ | k
  · rfl
  · cases k <;> rfl

@[simp] theorem setCursor_places (m : Mpu) (n : CursorName) (c : Cursor) : (m.setCursor n c).places = m.places := by
  rw [Mpu.places, setCursor_window, Mpu.places]

theorem setPermit_place (b : Bay) (k : Tool) (p : Permit) : (b.setPermit k p).place = b.place := by
  cases k <;> rfl

theorem mpuExit_places (k : Tool) (p : Nat) (s : State) : (mpuExit k p s).1.mpu.places = s.mpu.places := by
  simp only [mpuExit, setCursor_places]
  split
  · split
    · exact places_mapBay fun _ => rfl
    · rfl
  · rfl
  · rfl

/-- No hand-off moves a bay. -/
theorem handle_places (w : Work) (s : State) : (handle w s).1.mpu.places = s.mpu.places := by
  cases hc : w.changesMpu with
  | false => rw [(handle_leaves w s).mpu hc]
  | true =>
    cases w
    case moveCursor n =>
      simp only [handle, mpuMoveCursor]
      split
      · exact setCursor_places ..
      · rcases n with _ | k
        · exact setCursor_places ..
        · exact (mpuExit_places ..).trans (setCursor_places ..)
    case enter n r => rcases n with _ | k <;> (try cases k) <;> exact setCursor_places ..
    case missTest k => simp only [handle, mpuMissTest]; split <;> first | exact setCursor_places .. | rfl
    case actQuery k =>
      simp only [handle, mpuActQuery]
      repeat' split
      all_goals first | exact setCursor_places .. | rfl
    case mapEnd => exact places_map fun _ => rfl
    all_goals cases hc

/-! ### The trunk list and the queue -/

/-- No hand-off adds a trunk record. -/
theorem handle_trunks_length (w : Work) (s : State) : (handle w s).1.ttr.trunks.length ≤ s.ttr.trunks.length := by
  cases hc : w.changesTtr with
  | false => rw [(handle_keeps w s).ttr hc]
  | true =>
    cases w
    case purge =>
      simp only [handle, ttrPurge]
      repeat' split
      · exact le_rfl
      all_goals exact List.length_filter_le ..
    case outcome n o =>
      simp only [handle, prsOutcome]
      split
      · exact le_rfl
      · exact (List.length_map _).le
    case trunksEnd => exact Nat.zero_le _
    case clearWeeder | trunksDrop => exact (List.length_map _).le
    all_goals cases hc

theorem length_entries_fit (rpc : Nat) (room : Nat) (l : List Stretch) :
    ((fitStretches rpc room l).1.flatMap fun st => st.entries rpc).length ≤ room := by
  induction l generalizing room with
  | nil => simp [fitStretches]
  | cons st l ih =>
    simp only [fitStretches]
    split
    · next h =>
      have := ih (room - (st.entries rpc).length)
      simp only [List.flatMap_cons, List.length_append]
      omega
    · simp

theorem raisePastCaptures_queue (s : State) : s.raisePastCaptures.queue = s.wsq.queue := by
  unfold State.raisePastCaptures
  split <;> rfl

theorem queueTrunk_queue {n p : Nat} (h : s.wsq.queue.length ≤ 16) : (wsqQueueTrunk n p s).1.wsq.queue.length ≤ 16 := by
  simp only [wsqQueueTrunk, Config.queuePlaces]
  generalize s.wsq.queue.getLast?.filter _ = merged
  generalize decide ((zoneOf s.profile p).start ≤ s.odu.rpc) = behind
  split
  · exact h
  · cases merged <;> cases behind
    all_goals
      simp only [Option.isSome_none, Option.isSome_some, Bool.or_false, Bool.or_true, Bool.false_eq_true, ↓reduceIte]
      split
      · exact h
      · simp only [List.length_append, List.length_dropLast, List.length_cons, List.length_nil]
        omega

/-- No hand-off takes the action queue past its sixteen places (R111). -/
theorem handle_queue_length (w : Work) (h : s.wsq.queue.length ≤ 16) : (handle w s).1.wsq.queue.length ≤ 16 := by
  have filtered (p : Action → Bool) : (s.wsq.queue.filter p).length ≤ 16 := (List.length_filter_le ..).trans h
  have driven : (wsqDrive s).1.wsq.queue.length ≤ 16 := by
    simp only [wsqDrive]
    repeat' split
    all_goals first | exact h | exact filtered _
  cases hc : w.changesWsq with
  | false => rw [(handle_leaves w s).wsq hc]; exact h
  | true =>
    cases w
    case drive => exact driven
    case permission k =>
      cases k
      · exact driven
      all_goals cases hc
    case answer r a =>
      cases r
      · cases a <;> simp only [handle, wsqAnswer]
        all_goals
          repeat' split
          all_goals first | exact h | exact filtered _
      · cases hc
    case fire =>
      simp only [handle, wsqFire]
      repeat' split
      · exact filtered _
      · simp only [List.length_map, Wsq.raiseCleared]; exact h
      · exact h
    case fireEnd n =>
      simp only [handle, wsqFireEnd]
      split
      · exact h
      · exact filtered _
    case immediate => exact filtered _
    case rebuild => exact length_entries_fit ..
    case queueTrunk n p => exact queueTrunk_queue h
    case queueFull n =>
      simp only [handle, wsqQueueFull]
      split
      · exact h
      · exact (List.length_dropLast ..).le.trans ((Nat.sub_le ..).trans h)
    case overflow full =>
      simp only [handle, wsqOverflow]
      repeat' split
      · exact h
      · exact (congrArg List.length (raisePastCaptures_queue s)).le.trans h
      · exact h
    case arm st =>
      cases st <;> simp only [handle, wsqArm]
      all_goals
        repeat' split
        all_goals exact h
    case weederWithheld st =>
      simp only [handle, wsqWithheld]
      repeat' split
      all_goals first | exact h | exact Nat.zero_le _
    case weederStop | weederEnd => exact Nat.zero_le _
    case startEnd => exact h
    all_goals cases hc

/-! ### The bounds at a hand-off -/

theorem overlap_free_of_places {a b : List Bay} (h : a.map Bay.place = b.map Bay.place)
    (p : b.Pairwise fun x y => x.stop ≤ y.start) : a.Pairwise fun x y => x.stop ≤ y.start := by
  have lift (l : List Bay) : (l.Pairwise fun x y => x.stop ≤ y.start) ↔
      (l.map Bay.place).Pairwise fun x y => x.2.1 + x.2.2 ≤ y.2.1 := by
    rw [List.pairwise_map]
    rfl
  rw [lift, h, ← lift]
  exact p

/-- The bounds are kept by a state with the bays in their places, lists no longer than they may be, position and history as
they were and a valid profile. -/
theorem ListBounds.of_parts (b : ListBounds s) (places : t.mpu.places = s.mpu.places) (trunks : t.ttr.trunks.length ≤ 32)
    (queue : t.wsq.queue.length ≤ 16) (history : t.odu.history = s.odu.history) (rpc : t.odu.rpc = s.odu.rpc)
    (offset : t.odu.offset = s.odu.offset) (profile : t.profile.valid = true) : ListBounds t where
  bays := by
    have := congrArg List.length places
    simp only [Mpu.places, List.length_map] at this
    exact this ▸ b.bays
  order := overlap_free_of_places places b.order
  trunks := trunks
  queue := queue
  history := history ▸ b.history
  rpc := rpc ▸ b.rpc
  offset := offset ▸ b.offset
  profile := profile

/-- A change outside the five lists, the position and the profile keeps the bounds. -/
theorem ListBounds.of_eq (b : ListBounds s) (mpu : t.mpu = s.mpu) (ttr : t.ttr = s.ttr) (wsq : t.wsq.queue = s.wsq.queue)
    (odu : t.odu = s.odu) (profile : t.profile = s.profile) : ListBounds t :=
  b.of_parts (by rw [mpu]) (ttr ▸ b.trunks) (wsq ▸ b.queue) (by rw [odu]) (by rw [odu]) (by rw [odu]) (profile ▸ b.profile)

/-- The profiles that a row has taken up are valid ones. -/
def Work.takesValid : Work → Bool
  | .profileTaken p _ => p.valid
  | _ => true

theorem takesValid_from {v w : Work} (h : v.comesFrom w = true) : v.takesValid = true := by
  cases v <;> first | rfl | cases h

theorem handle_listBounds {w : Work} (v : w.takesValid = true) (b : ListBounds s) : ListBounds (handle w s).1 := by
  have odu : (handle w s).1.odu.history = s.odu.history ∧ (handle w s).1.odu.rpc = s.odu.rpc ∧
      (handle w s).1.odu.offset = s.odu.offset := by
    cases hc : w.changesOdu with
    | false => rw [(handle_keeps w s).odu hc]; exact ⟨rfl, rfl, rfl⟩
    | true =>
      cases w
      case reverseTest rose => simp only [handle, oduReverseTest]; repeat' split
                               all_goals exact ⟨rfl, rfl, rfl⟩
      case profileTaken => exact ⟨rfl, rfl, rfl⟩
      all_goals cases hc
  have profile : (handle w s).1.profile.valid = true := by
    cases hp : plain [w] with
    | true => rw [(handle_base w s hp).profile]; exact b.profile
    | false =>
      cases w
      case profileTaken p n => exact v
      case recover => rw [(recover_base s).profile]; exact b.profile
      case frameIn f => simp only [handle, mlkFrameIn]; split <;> exact b.profile
      all_goals cases hp
  exact b.of_parts (handle_places w s) ((handle_trunks_length w s).trans b.trunks) (handle_queue_length w b.queue) odu.1 odu.2.1
    odu.2.2 profile

theorem cascade_listBounds {ws : List Work} (hw : (ws.all Work.takesValid) = true) (b : ListBounds s) :
    ListBounds (cascade ws s) :=
  run_within (W := fun w => w.takesValid = true) (fun _ _ v p => handle_listBounds v p)
    (fun w u _ _ v hv => takesValid_from (List.all_eq_true.1 (handle_comesFrom w u) v hv))
    (fun _ p => p.of_eq rfl rfl rfl rfl rfl) _ ws s (List.all_eq_true.1 hw) b

end Sys2Proof.Machine

/-! PROOFS. The bounds of the lists and of the positions at every row (R47, R49, R52, R57, R66, R67, R111, R206, R207). -/

namespace Sys2Proof.Machine

variable {s t : State}

/-! ### A row as a whole -/

theorem live_listBounds {f : State → State} (h : live f s = .next t) (b : ListBounds s) (hf : ListBounds (f s)) : ListBounds t :=
  live_keeps h b (hf.of_eq rfl rfl rfl rfl rfl)

theorem takeFrame_listBounds (f : Frame) (b : ListBounds s) : ListBounds (takeFrame f s) :=
  b.of_eq (takeFrame_mpu f s) (takeFrame_ttr f s) (by rw [takeFrame_wsq]) (takeFrame_odu f s) (takeFrame_profile f s)

theorem serve_listBounds {f : Frame} {act : State → State} (h : serve f act s = .next t) (b : ListBounds s)
    (ha : ListBounds (act (takeFrame f s))) : ListBounds t := by
  refine live_listBounds h b ?_
  repeat' split
  · exact ha
  · exact b
  · exact cascade_listBounds rfl b

/-- A command keeps the bounds when what it changes itself does, and takes up no profile. -/
theorem command_listBounds {kind : Nat} {tag : Byte} {payload : List Byte} {m : State → Bool} {l : Bool}
    {body : State → Except Reason Accepted} (h : command kind tag payload m l body s = .next t) (b : ListBounds s)
    (hb : ∀ u a, ListBounds u → body u = .ok a → ListBounds a.1 ∧ (a.2.1.all Work.takesValid) = true) : ListBounds t := by
  refine serve_listBounds h b ?_
  have bu := takeFrame_listBounds ⟨BitVec.ofNat 8 kind, tag, payload⟩ b
  unfold answer
  repeat' split
  · exact bu.of_eq rfl rfl rfl rfl rfl
  · exact bu.of_eq rfl rfl rfl rfl rfl
  · exact bu.of_eq rfl rfl rfl rfl rfl
  · next a e =>
    obtain ⟨ba, va⟩ := hb _ a bu e
    exact (cascade_listBounds va ba).of_eq rfl rfl rfl rfl rfl

/-! ### Resets and profiles -/

theorem defaults_valid : Config.defaults.valid = true := by decide

theorem boot_listBounds (s : State) : ListBounds s.boot :=
  ⟨Nat.zero_le _, .nil, Nat.zero_le _, Nat.zero_le _, rfl, Nat.zero_le _, Nat.zero_le _, defaults_valid⟩

/-- The profile that an image brings into force passes the tests of PROFILE_WRITE, the defaults do (R206, R207). -/
theorem found_valid (i : StoredImage) : i.found.1.valid = true := by
  unfold StoredImage.found
  split
  · next p h =>
    unfold StoredImage.profile at h
    split at h
    · split at h
      · unfold Profile.ofImage at h
        split at h
        · exact (Option.filter_eq_some_iff.1 h).2
        · cases h
      · cases h
    · cases h
    · cases h
  · exact defaults_valid

theorem resetBlocks_listBounds (b : ListBounds s) : ListBounds s.resetBlocks :=
  ⟨Nat.zero_le _, .nil, Nat.zero_le _, Nat.zero_le _, b.history, b.rpc, b.offset, b.profile⟩

theorem resetWorks_takesValid (s : State) : (s.resetWorks.all Work.takesValid) = true := by
  simp only [State.resetWorks, List.all_append]
  repeat' split
  all_goals rfl

/-! ### The position -/

theorem pulse_bounds {o : Odu} {p step : Int} (h : o.rpc ≤ 1048575) : (o.pulse p step).1.rpc ≤ 1048575 ∧
    (o.pulse p step).1.history = o.history ∧ (o.pulse p step).1.offset = o.offset := by
  unfold Odu.pulse
  simp only
  repeat' split
  · next below =>
    refine ⟨?_, rfl, rfl⟩
    simp only [Config.rpcMax] at below ⊢
    omega
  · exact ⟨h, rfl, rfl⟩
  · exact ⟨(Nat.sub_le ..).trans h, rfl, rfl⟩
  all_goals exact ⟨h, rfl, rfl⟩

theorem ListBounds.of_odu (b : ListBounds s) {o : Odu} (history : o.history.length = 21) (rpc : o.rpc ≤ 1048575)
    (offset : o.offset.natAbs ≤ 1048575) : ListBounds { s with odu := o } :=
  ⟨b.bays, b.order, b.trunks, b.queue, history, rpc, offset, b.profile⟩

theorem oduPost_listBounds (b : ListBounds s) : ListBounds (oduPost s).1 := by
  have kept (p : Option PostRecord) (r : Option Nat) : ListBounds { s with odu := { s.odu with lastPost := p, postRef := r } } :=
    b.of_odu b.history b.rpc b.offset
  unfold oduPost
  simp only
  repeat' split
  all_goals first
    | exact kept _ _
    | (refine b.of_odu b.history b.rpc ?_
       rw [clampInt_eq (by decide)]
       simp only [Config.rpcMax]
       omega)

theorem ttrCapture_listBounds (b : ListBounds s) : ListBounds (ttrCapture s).1 := by
  unfold ttrCapture
  simp only
  split
  · exact b
  · split
    · exact b.of_parts rfl b.trunks b.queue rfl rfl rfl b.profile
    · split
      · next room =>
        refine b.of_parts rfl ?_ b.queue rfl rfl rfl b.profile
        simpa [Config.trunkPlaces] using room
      · exact b.of_parts rfl b.trunks b.queue rfl rfl rfl b.profile

/-! ### The bay window -/

theorem mem_insertBay {a b : Bay} {l : List Bay} : b ∈ insertBay a l ↔ b = a ∨ b ∈ l := by
  induction l with
  | nil => simp [insertBay]
  | cons c l ih =>
    rw [insertBay]
    split
    · simp
    · simp only [List.mem_cons, ih]
      tauto

/-- A bay that overlaps none of a window in rising order goes in without an overlap (R66, R68). -/
theorem insertBay_order {a : Bay} {l : List Bay} (ha : 1 ≤ a.length) (free : ∀ c ∈ l, a.overlaps c = false)
    (order : l.Pairwise fun x y => x.stop ≤ y.start) : (insertBay a l).Pairwise fun x y => x.stop ≤ y.start := by
  have apart (c : Bay) (h : a.overlaps c = false) : c.stop ≤ a.start ∨ a.stop ≤ c.start := by
    simp only [Bay.overlaps, Bool.and_eq_false_iff, decide_eq_false_iff_not, Nat.not_lt] at h
    exact h
  have forward (c : Bay) : c.start ≤ c.stop := Nat.le_add_right ..
  have long : a.start < a.stop := Nat.lt_add_of_pos_right ha
  induction l with
  | nil => exact List.pairwise_singleton ..
  | cons c l ih =>
    obtain ⟨behind, order⟩ := List.pairwise_cons.1 order
    obtain ⟨fc, free⟩ := List.forall_mem_cons.1 free
    rw [insertBay]
    split
    · next before =>
      have ac : a.stop ≤ c.start := (apart c fc).resolve_left fun e => by have := forward c; omega
      refine List.pairwise_cons.2 ⟨?_, List.pairwise_cons.2 ⟨behind, order⟩⟩
      rintro d (_ | ⟨_, hd⟩)
      · exact ac
      · exact ac.trans ((forward c).trans (behind d hd))
    · next after =>
      have ca : c.stop ≤ a.start := (apart c fc).resolve_right fun e => by omega
      refine List.pairwise_cons.2 ⟨fun d hd => ?_, ih free order⟩
      rcases mem_insertBay.1 hd with rfl | hd
      · exact ca
      · exact behind d hd

theorem length_insertBay (a : Bay) (l : List Bay) : (insertBay a l).length = l.length + 1 := by
  induction l with
  | nil => rfl
  | cons c l ih =>
    rw [insertBay]
    split
    · rfl
    · simp [ih]

/-- The records of a message put in their places, none of them clashing with another or with the window (R68). -/
theorem loaded_order {bays w : List Bay} (long : ∀ a ∈ bays, 1 ≤ a.length) (apart : anyClash bays = false)
    (free : ∀ a ∈ bays, ∀ c ∈ w, a.overlaps c = false) (order : w.Pairwise fun x y => x.stop ≤ y.start) :
    (bays.foldl (fun w b => insertBay b w) w).Pairwise (fun x y => x.stop ≤ y.start) ∧
      (bays.foldl (fun w b => insertBay b w) w).length = w.length + bays.length := by
  induction bays generalizing w with
  | nil => exact ⟨order, rfl⟩
  | cons a bays ih =>
    simp only [anyClash, Bool.or_eq_false_iff, Bay.clashes, List.any_eq_false] at apart
    obtain ⟨ha, apart⟩ := apart
    obtain ⟨la, long⟩ := List.forall_mem_cons.1 long
    obtain ⟨fa, free⟩ := List.forall_mem_cons.1 free
    have next := ih long apart (fun b hb c hc => by
      rcases mem_insertBay.1 hc with rfl | hc
      · have := (Bool.or_eq_false_iff.1 (Bool.eq_false_iff.2 (ha b hb))).1
        simp only [Bay.overlaps, Bool.and_eq_false_iff] at this ⊢
        exact this.symm
      · exact free b hb c hc) (insertBay_order la fa order)
    refine ⟨next.1, ?_⟩
    rw [List.foldl_cons, next.2, length_insertBay, List.length_cons]
    omega

theorem evict_length {f : Bay → Bool} {n : Nat} {l gone : List Bay} (h : evict f n l = some gone) :
    gone.length = n ∧ n ≤ l.length := by
  induction n generalizing l gone with
  | zero => cases h; exact ⟨rfl, Nat.zero_le _⟩
  | succ n ih =>
    cases l with
    | nil => cases h
    | cons b l =>
      rw [evict] at h
      split at h
      · obtain ⟨g, hg, rfl⟩ := Option.map_eq_some_iff.1 h
        have := ih hg
        simp only [List.length_cons]
        omega
      · cases h

/-- A bay record of a message is at least half a metre long (R68). -/
theorem bayOfBytes_length {bs : List Byte} {b : Bay} (h : bayOfBytes bs = some b) : 1 ≤ b.length := by
  unfold bayOfBytes at h
  split at h
  · simp only [Option.bind_eq_bind, Option.bind_eq_some_iff] at h
    obtain ⟨_, -, _, -, _, -, _, -, _, -, h⟩ := h
    split at h
    · next c =>
      cases h
      simp only [Bool.and_eq_true, decide_eq_true_eq] at c
      exact le_trans (by decide) c.1.1.2
    · cases h
  · cases h

theorem mem_of_mapM {α β : Type} {f : α → Option β} {l : List α} {r : List β} (h : l.mapM f = some r) {b : β} (hb : b ∈ r) :
    ∃ a ∈ l, f a = some b := by
  induction l generalizing r with
  | nil => cases h; cases hb
  | cons a l ih =>
    simp only [List.mapM_cons, Option.bind_eq_bind, Option.bind_eq_some_iff] at h
    obtain ⟨c, hc, r, hr, h⟩ := h
    cases h
    rcases List.mem_cons.1 hb with rfl | hb
    · exact ⟨a, List.mem_cons_self .., hc⟩
    · obtain ⟨d, hd, e⟩ := ih hr hb
      exact ⟨d, List.mem_cons_of_mem _ hd, e⟩

theorem baysOfPayload_long {p : List Byte} {bays : List Bay} (h : baysOfPayload p = some bays) : ∀ a ∈ bays, 1 ≤ a.length := by
  intro a ha
  obtain ⟨bs, -, e⟩ := mem_of_mapM h ha
  exact bayOfBytes_length e

/-- The window after LOAD_BAYS (R67, R68, R69). -/
theorem loadedWindow_bounds {bays gone : List Bay} (b : ListBounds s) (long : ∀ a ∈ bays, 1 ≤ a.length)
    (clash : ¬(anyClash bays || bays.any fun b => b.clashes s.mpu.window) = true)
    (he : evict s.evictable (s.mpu.window.length + bays.length - Config.windowPlaces) s.mpu.window = some gone) :
    let w := bays.foldl (fun w b => insertBay b w) (s.mpu.window.drop gone.length)
    w.length ≤ 64 ∧ w.Pairwise fun x y => x.stop ≤ y.start := by
  simp only [Bool.or_eq_true, not_or, Bool.not_eq_true, List.any_eq_false, Bay.clashes] at clash
  obtain ⟨order, length⟩ := loaded_order (w := s.mpu.window.drop gone.length) long clash.1
    (fun a ha c hc => (clash.2 a ha c (List.mem_of_mem_drop hc)).1) (b.order.drop)
  obtain ⟨hg, room⟩ := evict_length he
  refine ⟨?_, order⟩
  rw [length, List.length_drop, hg]
  simp only [Config.windowPlaces] at room ⊢
  omega

theorem passOfPayload_start {p : List Byte} {r : PassRecord} {c : Bool} (h : passOfPayload p = some (r, c)) :
    r.start ≤ 1048575 := by
  unfold passOfPayload at h
  split at h
  · simp only [Option.bind_eq_bind, Option.bind_eq_some_iff] at h
    obtain ⟨_, -, h⟩ := h
    split at h
    · cases h
    · next n =>
      simp only [Bool.or_eq_true, not_or] at n
      replace n := Nat.not_lt.1 (mt decide_eq_true n.2)
      split at h
      · obtain ⟨_, -, h⟩ := Option.bind_eq_some_iff.1 h
        cases h
        exact n
      · cases h
        exact n
  · cases h

theorem openPass_listBounds {p : PassRecord} (b : ListBounds s) (h : p.start ≤ 1048575) : ListBounds (s.openPass p) where
  bays := (List.length_map _).le.trans b.bays
  order := overlap_free_of_places (places_map fun _ => rfl) b.order
  trunks := b.trunks
  queue := Nat.zero_le _
  history := List.length_replicate
  rpc := Nat.zero_le _
  offset := h
  profile := b.profile

end Sys2Proof.Machine

/-! PROOFS. The bounds of the lists at each row, and at a step. -/

namespace Sys2Proof.Machine

variable {s t : State}

/-! ### The rows that change a list, the position or the profile themselves -/

theorem execEncoderTransition_listBounds {x y : Bool} (h : execEncoderTransition x y s = .next t) (b : ListBounds s) :
    ListBounds t := by
  refine live_listBounds h (b.of_eq rfl rfl rfl rfl rfl) ?_
  have pulsed : ListBounds { s with
      pins := { s.pins with encA := x, encB := y }
      odu := (({ s.odu with encA := x, encB := y } : Odu).pulse s.profile.prescale (phaseStep s.odu.encA s.odu.encB x y)).1 } := by
    obtain ⟨rpc, history, offset⟩ := pulse_bounds (o := { s.odu with encA := x, encB := y }) (p := s.profile.prescale)
      (step := phaseStep s.odu.encA s.odu.encB x y) b.rpc
    exact (b.of_odu (history ▸ b.history) rpc (offset ▸ b.offset)).of_eq rfl rfl rfl rfl rfl
  simp only
  split
  · exact (b.of_odu (o := { s.odu with encA := x, encB := y }) b.history b.rpc b.offset).of_eq rfl rfl rfl rfl rfl
  · split
    · next e => rw [e] at pulsed; exact cascade_listBounds rfl pulsed
    · next e => rw [e] at pulsed; exact pulsed

theorem execSpeedRecord_listBounds (h : execSpeedRecord s = .next t) (b : ListBounds s) : ListBounds t := by
  refine live_listBounds h b (cascade_listBounds rfl ?_)
  refine ⟨b.bays, b.order, b.trunks, b.queue, ?_, b.rpc, b.offset, b.profile⟩
  simp [b.history]

theorem execSamplePeriod_listBounds {x : Option (Int × Int × Int)} (h : execSamplePeriod x s = .next t) (b : ListBounds s) :
    ListBounds t := by
  have sampled (y : Sample) (u : State) (bu : ListBounds u) : ListBounds (u.takeSample y) := by
    unfold State.takeSample
    repeat' split
    · exact bu
    · exact cascade_listBounds rfl (bu.of_eq rfl rfl rfl rfl rfl)
    · exact bu.of_eq rfl rfl rfl rfl rfl
  refine live_listBounds h b ?_
  cases x with
  | none => exact b.of_eq rfl rfl rfl rfl rfl
  | some r =>
    simp only
    split
    · exact b.of_eq rfl rfl rfl rfl rfl
    · exact sampled _ _ (b.of_eq rfl rfl rfl rfl rfl)

theorem execReset_listBounds {tag : Byte} {payload : List Byte} (h : execReset tag payload s = .next t) (b : ListBounds s) :
    ListBounds t := by
  unfold execReset at h
  refine serve_listBounds h b ?_
  have bu := takeFrame_listBounds ⟨0x02#8, tag, payload⟩ b
  simp only
  repeat' split
  · exact bu.of_eq rfl rfl rfl rfl rfl
  · exact bu.of_eq rfl rfl rfl rfl rfl
  · exact bu.of_eq rfl rfl rfl rfl rfl
  · exact (cascade_listBounds (resetWorks_takesValid _) (resetBlocks_listBounds bu)).of_eq rfl rfl rfl rfl rfl

theorem execProfileWriteComplete_listBounds {ok : Bool} (h : execProfileWriteComplete ok s = .next t) (b : ListBounds s) :
    ListBounds t := by
  refine live_listBounds h b ?_
  split
  · refine cascade_listBounds ?_ (b.of_eq rfl rfl rfl rfl rfl)
    simp only [State.profileWritten, List.all_append]
    split
    · rfl
    · simp [Work.takesValid, found_valid]
  all_goals exact b

theorem execRecordWriteAttemptDone_listBounds {ok : Bool} (h : execRecordWriteAttemptDone ok s = .next t) (b : ListBounds s) :
    ListBounds t := by
  have failed (r : SprayRecord) (n : Nat) (cut : Bool) :
      ListBounds (cascade (lgsAttemptFailed r n cut s).2 (lgsAttemptFailed r n cut s).1) := by
    unfold lgsAttemptFailed
    simp only
    repeat' split
    all_goals exact cascade_listBounds rfl (b.of_eq rfl rfl rfl rfl rfl)
  refine live_listBounds h b ?_
  split
  · cases ok
    · exact failed ..
    · exact cascade_listBounds rfl (b.of_eq rfl rfl rfl rfl rfl)
  all_goals exact b

theorem execRegProgramPartDone_listBounds {ok : Bool} (h : execRegProgramPartDone ok s = .next t) (b : ListBounds s) :
    ListBounds t := by
  refine live_listBounds h b ?_
  split
  · next part _ _ =>
    cases ok
    · refine cascade_listBounds rfl ?_
      cases part <;> exact b.of_eq rfl rfl rfl rfl rfl
    · cases part <;> exact cascade_listBounds rfl (b.of_eq rfl rfl rfl rfl rfl)
  all_goals exact b

theorem execPostCapture_listBounds (h : execPostCapture s = .next t) (b : ListBounds s) : ListBounds t := by
  have works : ((oduPost s).2.all Work.takesValid) = true := by
    unfold oduPost
    simp only
    repeat' split
    all_goals rfl
  refine live_listBounds h b ?_
  split
  · exact cascade_listBounds works (oduPost_listBounds b)
  · exact b

theorem execFeelerCapture_listBounds (h : execFeelerCapture s = .next t) (b : ListBounds s) : ListBounds t := by
  have works : ((ttrCapture s).2.all Work.takesValid) = true := by
    unfold ttrCapture
    simp only
    repeat' split
    all_goals rfl
  refine live_listBounds h b ?_
  split
  · exact cascade_listBounds works (ttrCapture_listBounds b)
  · exact b

/-! ### The commands -/

/-- A command that changes the window without moving a bay, and of the rest neither list, position nor profile. -/
theorem ListBounds.of_places (b : ListBounds s) (places : t.mpu.places = s.mpu.places) (ttr : t.ttr = s.ttr)
    (queue : t.wsq.queue = s.wsq.queue) (odu : t.odu = s.odu) (profile : t.profile = s.profile) : ListBounds t :=
  b.of_parts places (ttr ▸ b.trunks) (queue ▸ b.queue) (by rw [odu]) (by rw [odu]) (by rw [odu]) (profile ▸ b.profile)

theorem execLoadBays_listBounds {tag : Byte} {p : List Byte} (h : execLoadBays tag p s = .next t) (b : ListBounds s) :
    ListBounds t := by
  refine command_listBounds h b fun u a bu e => ?_
  simp only at e
  split at e
  · cases e
  · next bays hb =>
    split at e
    · cases e
    · next clash =>
      split at e
      · cases e
      · next gone he =>
        cases e
        obtain ⟨bays, order⟩ := loadedWindow_bounds bu (baysOfPayload_long hb) clash he
        refine ⟨?_, all_map _ _ _ fun _ => rfl⟩
        simp only
        rw [arrange_eq]
        exact ⟨bays, order, bu.trunks, bu.queue, bu.history, bu.rpc, bu.offset, bu.profile⟩

theorem execSetBayPermit_listBounds {tag : Byte} {p : List Byte} (h : execSetBayPermit tag p s = .next t) (b : ListBounds s) :
    ListBounds t := by
  refine command_listBounds h b fun u a bu e => ?_
  simp only at e
  repeat' split at e
  all_goals first | contradiction | cases e
  all_goals first
    | exact ⟨bu, rfl⟩
    | (refine ⟨bu.of_places ?_ rfl rfl rfl rfl, rfl⟩
       simp only [setCursor_places]
       exact places_mapBay fun _ => setPermit_place ..)

theorem execPassOpen_listBounds {tag : Byte} {p : List Byte} (h : execPassOpen tag p s = .next t) (b : ListBounds s) :
    ListBounds t := by
  refine command_listBounds h b fun u a bu e => ?_
  split at e
  · cases e
  · split at e
    · cases e
    · next hp =>
      repeat' split at e
      all_goals first | contradiction | cases e
      exact ⟨openPass_listBounds bu (passOfPayload_start hp), rfl⟩

theorem execToolSet_listBounds {tag : Byte} {p : List Byte} (h : execToolSet tag p s = .next t) (b : ListBounds s) :
    ListBounds t := by
  have replaced (u : State) (bu : ListBounds u) (r : PassRecord) (tools : ToolSet) (f : Option SprayFields) :
      ListBounds (u.replaceTools r tools f) := by
    refine bu.of_parts rfl bu.trunks ?_ rfl rfl rfl bu.profile
    simp only [State.replaceTools]
    split
    · exact Nat.zero_le _
    · exact bu.queue
  have works (u : State) (d a : ToolSet) : ((u.toolWorks d a).all Work.takesValid) = true := by
    simp only [State.toolWorks, List.all_append, Bool.and_eq_true]
    refine ⟨⟨⟨⟨⟨⟨?_, ?_⟩, ?_⟩, ?_⟩, ?_⟩, ?_⟩, rfl⟩
    all_goals split <;> rfl
  unfold execToolSet at h
  refine command_listBounds h b fun u a bu e => ?_
  simp only at e
  repeat' split at e
  all_goals first | contradiction | cases e
  all_goals first
    | exact ⟨bu, rfl⟩
    | exact ⟨replaced _ bu .., works ..⟩

theorem recoverWeeder_listBounds (b : ListBounds s) : ListBounds s.recoverWeeder := by
  unfold State.recoverWeeder
  repeat' split
  · exact b
  · exact b.of_eq rfl rfl (raisePastCaptures_queue s) rfl rfl
  · exact b.of_eq rfl rfl rfl rfl rfl

theorem pruneHalt_listBounds (b : ListBounds s) :
    ListBounds s.pruneHalt.1 ∧ (s.pruneHalt.2.all Work.takesValid) = true := by
  unfold State.pruneHalt
  repeat' split
  all_goals exact ⟨b.of_eq rfl rfl rfl rfl rfl, rfl⟩

/-! ### Every row -/

theorem exec_listBounds (i : Instr) (h : exec i s = .next t) (b : ListBounds s) : ListBounds t := by
  cases i
  case powerOn => cases h; exact (boot_listBounds _).of_eq rfl rfl rfl rfl rfl
  case powerLoss =>
    cases h
    split
    · exact (boot_listBounds _).of_eq rfl rfl rfl rfl rfl
    · exact b
  case resetLine => exact live_listBounds h b ((boot_listBounds s).of_eq rfl rfl rfl rfl rfl)
  case encoderTransition => exact execEncoderTransition_listBounds h b
  case speedRecord => exact execSpeedRecord_listBounds h b
  case samplePeriod => exact execSamplePeriod_listBounds h b
  case postCapture => exact execPostCapture_listBounds h b
  case feelerCapture => exact execFeelerCapture_listBounds h b
  case reset => exact execReset_listBounds h b
  case profileWriteComplete => exact execProfileWriteComplete_listBounds h b
  case recordWriteAttemptDone => exact execRecordWriteAttemptDone_listBounds h b
  case regProgramPartDone => exact execRegProgramPartDone_listBounds h b
  case loadBays => exact execLoadBays_listBounds h b
  case setBayPermit => exact execSetBayPermit_listBounds h b
  case passOpen => exact execPassOpen_listBounds h b
  case toolSet => exact execToolSet_listBounds h b
  case unknownKind k tag payload =>
    simp only [exec, execUnknownKind] at h
    split at h
    · exact live_listBounds h b b
    · exact serve_listBounds h b ((takeFrame_listBounds _ b).of_eq rfl rfl rfl rfl rfl)
  case profileCheckDone =>
    refine live_listBounds h b ?_
    split
    · refine cascade_listBounds ?_ (b.of_eq rfl rfl rfl rfl rfl)
      simp [Work.takesValid, found_valid]
    · exact b
  case validFrame | frameDiscard | frameGapTimeout | byteReceived =>
    have received (l : List RxEvent) : ((l.map RxEvent.work).all Work.takesValid) = true :=
      all_map _ _ _ fun x => by cases x <;> rfl
    simp only [exec, execValidFrame, execFrameDiscard, execFrameGapTimeout, execByteReceived] at h
    refine live_listBounds h b ?_
    repeat' split
    all_goals first
      | exact b
      | exact cascade_listBounds (by simp only [List.all_cons, received]; rfl) (b.of_eq rfl rfl rfl rfl rfl)
      | exact cascade_listBounds (received _) (b.of_eq rfl rfl rfl rfl rfl)
  case logScanDone | regScanDone | staleTimerExpiry | lostTimerExpiry | recoveryExpiry | armExt | armRet | armDeadlineExpiry |
    simArmMoveDone | headInpos | headDeadlineExpiry | simHeadMoveDone | phaseTimerExpiry | stepWaitExpiry | flowPulse |
    storeOperationBegin | recordWriteBegin | silenceExpiry | secondsTick | keyChange | frameSent | ceilPeriodStart =>
    simp only [exec, execLogScanDone, execRegScanDone, execStaleTimerExpiry, execLostTimerExpiry, execRecoveryExpiry, execArmExt,
      execArmRet, execArmDeadlineExpiry, execSimArmMoveDone, execHeadInpos, execHeadDeadlineExpiry, execSimHeadMoveDone,
      execPhaseTimerExpiry, execStepWaitExpiry, execFlowPulse, execStoreOperationBegin, execRecordWriteBegin,
      execSilenceExpiry, execSecondsTick, execKeyChange, execFrameSent, execCeilPeriodStart] at h
    refine live_listBounds h (b.of_eq rfl rfl rfl rfl rfl) ?_
    repeat' split
    all_goals first
      | exact b.of_eq rfl rfl rfl rfl rfl
      | exact cascade_listBounds rfl (b.of_eq rfl rfl rfl rfl rfl)
  case mapClear =>
    refine command_listBounds h b fun u a bu e => ?_
    split at e <;> cases e
    exact ⟨⟨Nat.zero_le _, .nil, bu.trunks, bu.queue, bu.history, bu.rpc, bu.offset, bu.profile⟩, rfl⟩
  case setBayProtect =>
    refine command_listBounds h b fun u a bu e => ?_
    simp only at e
    repeat' split at e
    all_goals first | contradiction | cases e
    exact ⟨bu.of_places (places_mapBay fun _ => rfl) rfl rfl rfl rfl, rfl⟩
  case confirmBay =>
    refine command_listBounds h b fun u a bu e => ?_
    simp only at e
    repeat' split at e
    all_goals first | contradiction | cases e
    all_goals exact ⟨bu.of_places (places_mapBay fun _ => rfl) rfl rfl rfl rfl, rfl⟩
  case mapLock =>
    refine command_listBounds h b fun u a bu e => ?_
    simp only at e
    repeat' split at e
    all_goals first | contradiction | cases e
    · exact ⟨bu.of_places (places_map fun _ => rfl) rfl rfl rfl rfl, rfl⟩
    · exact ⟨bu.of_places rfl rfl rfl rfl rfl, rfl⟩
  case weederRecover =>
    refine command_listBounds h b fun u a bu e => ?_
    split at e <;> cases e
    refine ⟨recoverWeeder_listBounds bu, ?_⟩
    simp only
    split <;> rfl
  case passResume =>
    refine command_listBounds h b fun u a bu e => ?_
    repeat' split at e
    all_goals first | contradiction | cases e
    exact ⟨⟨bu.bays, bu.order, bu.trunks, bu.queue, bu.history, bu.rpc, bu.offset, bu.profile⟩, rfl⟩
  case pruneHalt =>
    refine command_listBounds h b fun u a bu e => ?_
    cases e
    exact pruneHalt_listBounds bu
  case status | setTime | profileRead | stabRead | tankRead | wake | passHold | passClose | passRead | weederRead |
    pruneRead | logStatus | logRead =>
    exact command_listBounds h b fun u a bu e => by cases e; exact ⟨bu.of_eq rfl rfl rfl rfl rfl, rfl⟩
  all_goals
    refine command_listBounds h b fun u a bu e => ?_
    simp only at e
    repeat' split at e
    all_goals first | contradiction | (cases e; exact ⟨bu.of_places rfl rfl rfl rfl rfl, rfl⟩)

/-- Settles O59: the bounds are kept by the change each row makes itself and by each hand-off after it. -/
theorem listsKeepTheirBounds : Obligations.ListsKeepTheirBounds := by
  intro s t h b
  unfold step at h
  split at h
  · exact exec_listBounds _ h (b.of_eq rfl rfl rfl rfl rfl)
  · cases h; exact b

end Sys2Proof.Machine

/-! PROOFS. MAP_READ, TRUNK_READ, PASS_READ, WEEDER_READ and PRUNE_READ (R63, R72, R108, R130, R152). -/

namespace Sys2Proof.Machine

variable {s : State}

/-! ### What taking a frame leaves as it is -/

section Taken

variable (f : Frame) (s : State)

theorem takeFrame_tools : (takeFrame f s).tools = s.tools := by rw [takeFrame_eq]; rfl
theorem takeFrame_simMotion : (takeFrame f s).simMotion = s.simMotion := by rw [takeFrame_eq]; rfl
theorem takeFrame_driveTerms : (takeFrame f s).driveTerms = s.driveTerms := by rw [takeFrame_eq]; rfl
theorem takeFrame_bladeCommanded : (takeFrame f s).bladeCommanded = s.bladeCommanded := by rw [takeFrame_eq]; rfl
theorem takeFrame_cuttersCommanded : (takeFrame f s).cuttersCommanded = s.cuttersCommanded := by rw [takeFrame_eq]; rfl
theorem takeFrame_candidateReply : (takeFrame f s).candidateReply = s.candidateReply := by rw [takeFrame_eq]; rfl

end Taken

theorem bigEndian_one (n : Byte) : bigEndian [n] = n.toNat := by simp [bigEndian]

/-- The items of a list from a place on, as many as a message has room for. -/
theorem getElem?_take_drop {α : Type} (l : List α) (n : Nat) {i k : Nat} (h : i < k) : ((l.drop n).take k)[i]? = l[n + i]? := by
  rw [List.getElem?_take_of_lt h, List.getElem?_drop]

theorem simMotion_eq : s.simMotion = true ↔ s.rehearsal = 3 := beq_iff_eq

/-! ### MAP_READ (R72) -/

/-- The result of MAP_READ in a state, from a place of the window on. -/
def State.mapReply (s : State) (place : Nat) : MapReply :=
  { count := s.mpu.window.length, mapLock := s.mpu.mapLock, service := s.pins.service, lock := s.lock
    reference := s.mpu.reference.reply none, weeder := s.mpu.weeder.reply (s.permission .weeder)
    pruner := s.mpu.pruner.reply (s.permission .pruner), spray := s.mpu.spray.reply (s.permission .spray)
    bays := (s.mpu.window.drop place).take 6 }

theorem takeFrame_mapReply (f : Frame) (n : Nat) : (takeFrame f s).mapReply n = s.mapReply n := by
  simp only [State.mapReply, takeFrame_mpu, takeFrame_pins, takeFrame_lock, takeFrame_permission]

section

variable {tag n : Byte} (hp : s.powered = true) (hm : s.mode = .idle ∨ s.mode = .pass)

include hp hm

theorem exec_mapRead_refused (ht : s.takes ⟨0x22#8, tag, [n]⟩ = true) (h : 63 < n.toNat) :
    exec (.mapRead tag [n]) s = .next ((takeFrame ⟨0x22#8, tag, [n]⟩ s).refusedWith ⟨0x22#8, tag, [n]⟩ .outOfRange) :=
  command_refused (kind := 0x22) hp ht (takeFrame_inIdlePass _ hm) rfl (if_pos (by rwa [bigEndian_one]))

theorem exec_mapRead (ht : s.takes ⟨0x22#8, tag, [n]⟩ = true) (h : n.toNat ≤ 63) :
    exec (.mapRead tag [n]) s =
      .next ((takeFrame ⟨0x22#8, tag, [n]⟩ s).replied ⟨0x22#8, tag, [n]⟩ (.mapRead (s.mapReply n.toNat))) := by
  rw [← takeFrame_mapReply ⟨0x22#8, tag, [n]⟩, ← bigEndian_one]
  exact command_ok (kind := 0x22) (a := (_, [], fun _ => .mapRead (State.mapReply _ _))) hp ht (takeFrame_inIdlePass _ hm) rfl
    (if_neg (by rw [bigEndian_one]; omega))

/-! ### TRUNK_READ (R63) -/

/-- The result of TRUNK_READ in a state, from a place of the list on. -/
def State.trunkReply (s : State) (place : Nat) : TrunkReply :=
  { rpc := s.odu.rpc, prescaler := s.odu.prescaler, direction := s.odu.direction, speed := s.odu.speed
    furthest := s.odu.furthest, offset := s.odu.offset, lastPost := s.odu.lastPost, postRef := s.odu.postRef
    count := s.ttr.trunks.length, counter := s.ttr.counter, spacing := s.ttr.spacing
    overflowed := s.ttr.overflowed, trunks := (s.ttr.trunks.drop place).take 8 }

omit hp hm in
theorem takeFrame_trunkReply (f : Frame) (n : Nat) : (takeFrame f s).trunkReply n = s.trunkReply n := by
  simp only [State.trunkReply, takeFrame_odu, takeFrame_ttr]

theorem exec_trunkRead_refused (ht : s.takes ⟨0x50#8, tag, [n]⟩ = true) (h : 31 < n.toNat) :
    exec (.trunkRead tag [n]) s = .next ((takeFrame ⟨0x50#8, tag, [n]⟩ s).refusedWith ⟨0x50#8, tag, [n]⟩ .outOfRange) :=
  command_refused (kind := 0x50) hp ht (takeFrame_inIdlePass _ hm) rfl (if_pos (by rwa [bigEndian_one]))

theorem exec_trunkRead (ht : s.takes ⟨0x50#8, tag, [n]⟩ = true) (h : n.toNat ≤ 31) :
    exec (.trunkRead tag [n]) s =
      .next ((takeFrame ⟨0x50#8, tag, [n]⟩ s).replied ⟨0x50#8, tag, [n]⟩ (.trunkRead (s.trunkReply n.toNat))) := by
  rw [← takeFrame_trunkReply ⟨0x50#8, tag, [n]⟩, ← bigEndian_one]
  exact command_ok (kind := 0x50) (a := (_, [], fun _ => .trunkRead (State.trunkReply _ _))) hp ht (takeFrame_inIdlePass _ hm) rfl
    (if_neg (by rw [bigEndian_one]; omega))

/-! ### PASS_READ (R108) -/

omit hp hm in
/-- The result of PASS_READ in a state (logs 72, 75). -/
def State.passReply (s : State) : PassReply :=
  { mode := s.mode, pass := if s.inPass then s.psc.pass else none
    lastPass := if s.inPass then none else s.psc.lastPass
    selected := s.tools, withheld := ⟨s.wsq.withheld, s.prs.fault, false⟩, driveEn := s.permit
    failing := s.failingTerms, rpc := s.odu.rpc, offset := s.odu.offset }

theorem exec_passRead (ht : s.takes ⟨0x35#8, tag, []⟩ = true) :
    let u := takeFrame ⟨0x35#8, tag, []⟩ s
    exec (.passRead tag []) s = .next (u.replied ⟨0x35#8, tag, []⟩ (.passRead u.passReply)) :=
  command_reads (kind := 0x35) (fun u => .passRead u.passReply) hp ht (takeFrame_inIdlePass _ hm) rfl

/-! ### WEEDER_READ (R130) -/

omit hp hm in
/-- The result of WEEDER_READ in a state. -/
def State.weederReply (s : State) : WeederReply :=
  { arm := s.wsq.arm, simArm := if s.simMotion then some s.wsq.simArm else none
    timeLeft := if s.simMotion then none else s.timeLeft s.wsq.deadline
    armExt := s.pins.armExt, armRet := s.pins.armRet, armOut := s.pinsOut.armOut, armIn := s.pinsOut.armIn
    blade := s.pinsOut.blade
    bladeCommanded := s.bladeCommanded, intent := s.wsq.intent, clearedTo := s.wsq.clearedTo
    holdOverflow := s.wsq.holdOverflow, holdQueue := s.wsq.holdQueue, stall := s.wsq.stall, fault := s.wsq.fault
    admission := s.stu.weederAdm, permission := s.permission .weeder, failing := s.driveTerms, queue := s.wsq.queue }

theorem exec_weederRead (ht : s.takes ⟨0x41#8, tag, []⟩ = true) :
    let u := takeFrame ⟨0x41#8, tag, []⟩ s
    exec (.weederRead tag []) s = .next (u.replied ⟨0x41#8, tag, []⟩ (.weederRead u.weederReply)) :=
  command_reads (kind := 0x41) (fun u => .weederRead u.weederReply) hp ht (takeFrame_inIdlePass _ hm) rfl

/-! ### PRUNE_READ (R152) -/

omit hp hm in
/-- The result of PRUNE_READ in a state. -/
def State.pruneReply (s : State) : PruneReply :=
  { program := s.prs.program, armed := s.prs.armed, fault := s.prs.fault, head := s.prs.head
    timeLeft := if s.simMotion then none else s.timeLeft s.prs.head.deadline
    inPosition := s.pins.headInpos, simHead := if s.simMotion then some s.prs.simHead else none
    cutters := s.pinsOut.cut, cuttersCommanded := s.cuttersCommanded, run := s.prs.run
    admission := s.stu.prunerAdm.map fun q => q.status
    stepWaitLeft := s.timeLeft (s.prs.run.bind fun r => r.stepWait)
    candidate := s.candidateReply, permission := s.permission .pruner, counts := s.prs.counts }

theorem exec_pruneRead (ht : s.takes ⟨0x4B#8, tag, []⟩ = true) :
    let u := takeFrame ⟨0x4B#8, tag, []⟩ s
    exec (.pruneRead tag []) s = .next (u.replied ⟨0x4B#8, tag, []⟩ (.pruneRead u.pruneReply)) :=
  command_reads (kind := 0x4B) (fun u => .pruneRead u.pruneReply) hp ht (takeFrame_inIdlePass _ hm) rfl

end

/-- Settles O53: each read replies with the state as it stands when its frame has been taken, which changes the link alone. -/
theorem mapPassTrunkAndToolReads : Obligations.MapPassTrunkAndToolReads := by
  refine ⟨?places, ?tools⟩
  case' places =>
    intro tag n s hp hm f g h
    refine ⟨exec_mapRead_refused hp hm, fun ht hn => ?map, exec_trunkRead_refused hp hm, fun ht hn => ?trunks,
      fun ht => ⟨_, exec_passRead hp hm ht, ?pass⟩⟩
  case' tools =>
    intro tag s hp hm f g
    refine ⟨fun ht => ⟨_, exec_weederRead hp hm ht, ?weeder⟩, fun ht => ⟨_, exec_pruneRead hp hm ht, ?pruner⟩⟩
  case map =>
    exact ⟨_, exec_mapRead hp hm ht hn, rfl, rfl, rfl, rfl, rfl, rfl, rfl, rfl, rfl, List.length_take_le ..,
      fun i hi => getElem?_take_drop _ _ hi⟩
  case trunks =>
    exact ⟨_, exec_trunkRead hp hm ht hn, rfl, rfl, rfl, rfl, rfl, rfl, rfl, rfl, rfl, rfl, rfl, rfl, List.length_take_le ..,
      fun i hi => getElem?_take_drop _ _ hi⟩
  case pass =>
    simp only [State.passReply, takeFrame_mode, takeFrame_tools, takeFrame_psc, takeFrame_wsq, takeFrame_prs,
      takeFrame_odu, State.inPass, beq_iff_eq, true_and, and_true]
    exact ⟨rfl, rfl, rfl⟩
  case weeder =>
    refine ⟨?_, ?_, ?_, ?_, ?_, pinsOut_arm_one_way _, ?_⟩
    all_goals simp only [State.weederReply, State.timeLeft, takeFrame_wsq, takeFrame_simMotion, takeFrame_pins, takeFrame_stu,
      takeFrame_bladeCommanded, takeFrame_permission, takeFrame_driveTerms, takeFrame_time, simMotion_eq, true_and]
    exact fun h => if_neg h
  case pruner =>
    simp only [State.pruneReply, takeFrame_prs, takeFrame_simMotion, takeFrame_pins, takeFrame_stu, takeFrame_cuttersCommanded,
      takeFrame_permission, takeFrame_candidateReply, simMotion_eq, true_and]
    refine ⟨fun t ht => ?_, fun hn => ?_⟩
    · simp only [State.candidateReply, ht]
      exact ⟨_, rfl, rfl, rfl, rfl⟩
    · rw [State.candidateReply, hn]
      rfl

end Sys2Proof.Machine

/-! PROOFS. POST_CAPTURE and the boundary nearest to a map position (R53 to R56). -/

namespace Sys2Proof.Machine

variable {s : State}

/-- Of the Odometry Unit no hand-off between blocks changes more than the furthest count. -/
theorem SameBase.odu_eq {t : State} (h : SameBase s t) : t.odu = { s.odu with furthest := t.odu.furthest } := by
  have e := congrArg (fun o : Odu => { o with furthest := t.odu.furthest }) h.odu
  exact e

theorem inPass_iff : s.inPass = true ↔ s.mode = .pass := beq_iff_eq

/-! ### The nearest boundary (R53) -/

/-- The boundary `b` is at least as near to `q` as `c` is, and the lower of two that are equally near. -/
def atLeastAsNear (q b c : Nat) : Prop := natDistance b q < natDistance c q ∨ (natDistance b q = natDistance c q ∧ b ≤ c)

theorem atLeastAsNear_refl (q b : Nat) : atLeastAsNear q b b := .inr ⟨rfl, le_rfl⟩

theorem atLeastAsNear_trans {q a b c : Nat} (h : atLeastAsNear q a b) (k : atLeastAsNear q b c) : atLeastAsNear q a c := by
  simp only [atLeastAsNear] at *
  omega

/-- The nearer of a boundary and the next one is one of the two, and none is nearer. -/
theorem nearer_some (q c b : Nat) : ∃ a, nearer q (some c) b = some a ∧ (a = c ∨ a = b) ∧ atLeastAsNear q a c ∧
    atLeastAsNear q a b := by
  simp only [nearer]
  split
  · next h =>
    refine ⟨b, rfl, .inr rfl, ?_, atLeastAsNear_refl q b⟩
    simp only [Bool.or_eq_true, Bool.and_eq_true, decide_eq_true_eq, beq_iff_eq] at h
    simp only [atLeastAsNear]
    omega
  · next h =>
    refine ⟨c, rfl, .inl rfl, atLeastAsNear_refl q c, ?_⟩
    simp only [Bool.or_eq_true, Bool.and_eq_true, decide_eq_true_eq, beq_iff_eq] at h
    simp only [atLeastAsNear]
    omega

theorem foldl_nearer_some (q : Nat) (l : List Nat) (c : Nat) : ∃ a, l.foldl (nearer q) (some c) = some a ∧ a ∈ c :: l ∧
    ∀ d ∈ c :: l, atLeastAsNear q a d := by
  induction l generalizing c with
  | nil => exact ⟨c, rfl, List.mem_cons_self .., fun d hd => List.mem_singleton.1 hd ▸ atLeastAsNear_refl q d⟩
  | cons b l ih =>
    obtain ⟨a, e, which, ac, ab⟩ := nearer_some q c b
    obtain ⟨z, ez, mem, least⟩ := ih a
    obtain ⟨za, rest⟩ := List.forall_mem_cons.1 least
    refine ⟨z, by rw [List.foldl_cons, e, ez], ?_, ?_⟩
    · rcases List.mem_cons.1 mem with rfl | mem
      · rcases which with rfl | rfl <;> simp
      · simp [mem]
    · simp only [List.forall_mem_cons]
      exact ⟨atLeastAsNear_trans za ac, atLeastAsNear_trans za ab, rest⟩

theorem foldl_nearer (q : Nat) (l : List Nat) : (l.foldl (nearer q) none = none ↔ l = []) ∧
    ∀ b, l.foldl (nearer q) none = some b → b ∈ l ∧ ∀ c ∈ l, atLeastAsNear q b c := by
  cases l with
  | nil => exact ⟨by simp, fun b h => by cases h⟩
  | cons c l =>
    obtain ⟨a, e, mem, least⟩ := foldl_nearer_some q l c
    have e' : (c :: l).foldl (nearer q) none = some a := e
    rw [e']
    exact ⟨by simp, fun b h => by cases h; exact ⟨mem, least⟩⟩

theorem mem_boundaries {w : List Bay} {b : Nat} :
    b ∈ (w.flatMap fun y => [y.start, y.stop]) ↔ ∃ y ∈ w, b = y.start ∨ b = y.stop := by
  simp [List.mem_flatMap]

/-- The nearest boundary: none of an empty window, else one of a bay's, none nearer, the lower of two equally near (R53). -/
theorem nearestBoundary_spec (m : Mpu) (q : Nat) : (m.nearestBoundary q = none ↔ m.window = []) ∧
    ∀ b, m.nearestBoundary q = some b → (∃ y ∈ m.window, b = y.start ∨ b = y.stop) ∧
      ∀ y ∈ m.window, ∀ c, c = y.start ∨ c = y.stop → atLeastAsNear q b c := by
  obtain ⟨empty, least⟩ := foldl_nearer q (m.window.flatMap fun y => [y.start, y.stop])
  refine ⟨empty.trans ?_, fun b h => ?_⟩
  · cases m.window <;> simp
  · obtain ⟨mem, near⟩ := least b h
    exact ⟨mem_boundaries.1 mem, fun y hy c hc => near c (mem_boundaries.2 ⟨y, hy, hc⟩)⟩

/-! ### A capture classified -/

/-- The last post record and the post reference after a capture. -/
def State.postKept (s : State) (p : PostRecord) (ref : Nat) : State :=
  { s with odu := { s.odu with lastPost := some p, postRef := some ref } }

/-- The post reference within POST_WINDOW of a position, if it is (R53). -/
def State.nearPost (s : State) : Option Nat :=
  s.odu.postRef.filter fun r => decide (natDistance s.odu.rpc r ≤ s.profile.postWindow.toNat)

/-- The map position of the post sensor (R52, R53). -/
def State.postPos (s : State) : Nat := clampMap (s.odu.rpc + s.odu.offset)

/-- A bay within POST_WINDOW (R53). -/
def State.postInReach (s : State) : Bool :=
  s.mpu.window.any fun y => decide (y.distance s.postPos ≤ s.profile.postWindow.toNat)

theorem oduPost_repeated {r : Nat} (h : s.nearPost = some r) :
    oduPost s = (s.postKept ⟨s.odu.rpc, s.postPos, none, 0, .repeated⟩ r, []) := by
  simp only [State.nearPost] at h
  simp only [oduPost, h]
  rfl

theorem oduPost_noBay (h : s.nearPost = none) (n : s.postInReach = false) :
    oduPost s = (s.postKept ⟨s.odu.rpc, s.postPos, none, 0, .noBay⟩ s.odu.rpc, []) := by
  simp only [State.nearPost] at h
  simp only [oduPost, h]
  split
  · rfl
  · exact if_pos (congrArg not n)

/-- The correction of the map offset, clamped to POST_STEP (R55). -/
def State.postCorrection (s : State) (b : Nat) : Int := clampInt (-s.profile.postStep) s.profile.postStep ((b : Int) - s.postPos)

/-- The map offset after a correction, held in its range (R52). -/
def State.correctedOffset (s : State) (b : Nat) : Int :=
  clampInt (-Config.rpcMax) Config.rpcMax (s.odu.offset + s.postCorrection b)

theorem oduPost_corrected {b : Nat} (h : s.nearPost = none) (n : s.postInReach = true) (hb : s.mpu.nearestBoundary s.postPos = some b)
    (d : natDistance b s.postPos ≤ s.profile.postWindow.toNat) :
    (oduPost s).1 = { s with odu :=
      { s.odu with lastPost := some ⟨s.odu.rpc, s.postPos, some b, s.postCorrection b, .corrected⟩, postRef := some s.odu.rpc
                   offset := s.correctedOffset b } } ∧ plain (oduPost s).2 = true := by
  simp only [State.nearPost] at h
  simp only [State.postPos] at hb
  have e : oduPost s = ({ s with odu :=
      { s.odu with lastPost := some ⟨s.odu.rpc, s.postPos, some b, s.postCorrection b, .corrected⟩, postRef := some s.odu.rpc
                   offset := s.correctedOffset b } }, if s.correctedOffset b = s.odu.offset then [] else [.mapMove]) := by
    simp only [oduPost, h, hb]
    exact (if_neg (by rw [Bool.not_eq_true]; exact congrArg not n)).trans (if_pos d)
  rw [e]
  refine ⟨rfl, ?_⟩
  simp only
  split <;> rfl

theorem oduPost_mismatch {b : Nat} (h : s.nearPost = none) (n : s.postInReach = true) (hb : s.mpu.nearestBoundary s.postPos = some b)
    (d : s.profile.postWindow.toNat < natDistance b s.postPos) :
    oduPost s = (s.postKept ⟨s.odu.rpc, s.postPos, some b, 0, .mismatch⟩ s.odu.rpc,
      [.occur .postMismatch (.postMismatch s.odu.rpc s.postPos b (natDistance b s.postPos))]) := by
  simp only [State.nearPost] at h
  simp only [State.postPos] at hb
  simp only [oduPost, h, hb]
  exact (if_neg (by rw [Bool.not_eq_true]; exact congrArg not n)).trans (if_neg (Nat.not_le.2 d))

/-- A bay is within reach only in a window that has a boundary. -/
theorem nearestBoundary_of_reach (h : s.postInReach = true) : ∃ b, s.mpu.nearestBoundary s.postPos = some b := by
  refine Option.ne_none_iff_exists'.1 fun e => ?_
  rw [State.postInReach, (nearestBoundary_spec _ _).1.1 e] at h
  cases h

/-! ### The row -/

theorem exec_postCapture (hp : s.powered = true) (m : s.mode = .pass) :
    exec .postCapture s = .next (cascade (oduPost s).2 (oduPost s).1).finish := by
  simp only [exec, execPostCapture]
  rw [live_on hp, if_pos (inPass_iff.2 m)]

theorem exec_postCapture_off (hp : s.powered = true) (m : s.mode ≠ .pass) : exec .postCapture s = .next s.finish := by
  simp only [exec, execPostCapture]
  rw [live_on hp, if_neg (mt inPass_iff.1 m)]

/-- A capture moves neither the count nor the prescaler nor the trunk numbering. -/
theorem cascade_oduPost_base : (cascade (oduPost s).2 (oduPost s).1).odu.rpc = s.odu.rpc ∧
    (cascade (oduPost s).2 (oduPost s).1).odu.prescaler = s.odu.prescaler ∧
    (cascade (oduPost s).2 (oduPost s).1).ttr.counter = s.ttr.counter := by
  have works : plain (oduPost s).2 = true := by
    unfold oduPost
    simp only
    repeat' split
    all_goals rfl
  have own : (oduPost s).1.odu.rpc = s.odu.rpc ∧ (oduPost s).1.odu.prescaler = s.odu.prescaler ∧
      (oduPost s).1.ttr = s.ttr := by
    unfold oduPost
    simp only
    repeat' split
    all_goals exact ⟨rfl, rfl, rfl⟩
  have base := cascade_base _ (oduPost s).1 works
  exact ⟨base.rpc.trans own.1, base.prescaler.trans own.2.1, base.counter.trans (congrArg Ttr.counter own.2.2)⟩

/-- Settles O24: the capture classified in each of its four cases, and what its hand-offs leave of it. -/
theorem postCaptures : Obligations.PostCaptures := by
  refine ⟨fun s hp => ⟨exec_postCapture_off hp, fun m hw hs => ?_⟩, nearestBoundary_spec⟩
  intro rpc q near inReach
  refine ⟨_, exec_postCapture hp m, fun r h => ?repeated, fun h n => ?noBay, fun h n b hb => ⟨fun d => ?mismatch, fun d => ?corrected⟩,
    cascade_oduPost_base⟩
  case repeated =>
    rw [oduPost_repeated h, cascade_nil]
    obtain ⟨hr, -⟩ := Option.filter_eq_some_iff.1 h
    exact ⟨by simp only [State.postKept, State.finish_odu, hr]; rfl, rfl⟩
  case noBay =>
    rw [oduPost_noBay h n, cascade_nil]
    exact ⟨rfl, rfl⟩
  case mismatch =>
    rw [oduPost_mismatch h n hb d, cascade_eq, run_leaf (handle_occur_notMinor rfl), run_nil]
    simp only [State.finish_odu, State.finish_cdu, State.raise_odu, State.raise_get_same]
    exact ⟨rfl, rfl⟩
  case corrected =>
    intro k
    obtain ⟨e, works⟩ := oduPost_corrected h n hb d
    have base := cascade_base _ (oduPost s).1 works
    have odu := base.odu_eq
    have hk : s.postCorrection b = k := clampInt_eq (by omega) _
    have ho : s.correctedOffset b = max (-1048575) (min 1048575 (s.odu.offset + s.postCorrection b)) := clampInt_eq (by decide) _
    rw [State.finish_odu, odu, e, ← hk, ← ho]
    exact ⟨rfl, rfl, rfl⟩

end Sys2Proof.Machine

/-! PROOFS. PASS_OPEN: its fields, its tests, the pass it opens (R50, R86, R91, R92, R93, R207). -/

namespace Sys2Proof.Machine

variable {s : State}

/-! ### The fields (Table 11-8) -/

theorem bigEndian_two (a b : Byte) : bigEndian [a, b] = 256 * a.toNat + b.toNat := by
  simp [bigEndian, Nat.mul_comm]

theorem getLsbD_of_lt {b : Byte} {k i : Nat} (h : b.toNat < 2 ^ k) (hi : k ≤ i) : b.getLsbD i = false :=
  Nat.testBit_lt_two_pow (h.trans_le (Nat.pow_le_pow_right (by decide) hi))

theorem toolSetOfByte_some {b : Byte} (h : b.toNat < 8) :
    toolSetOfByte b = some ⟨b.getLsbD 0, b.getLsbD 1, b.getLsbD 2⟩ := if_pos h

theorem toolSetOfByte_none {b : Byte} (h : 7 < b.toNat) : toolSetOfByte b = none := if_neg (by omega)

/-- A byte below 4 names a tool of the first two exactly when it is not 0. -/
theorem lowTools_empty (b : Byte) (h : b.toNat < 4) : (⟨b.getLsbD 0, b.getLsbD 1, false⟩ : ToolSet) = ToolSet.empty ↔ b.toNat = 0 := by
  have e : ∀ n : Fin 4, (n.val.testBit 0 = false ∧ n.val.testBit 1 = false) ↔ n.val = 0 := by decide
  have := e ⟨b.toNat, h⟩
  rw [ToolSet.empty, ToolSet.mk.injEq]
  simpa [BitVec.getLsbD] using this

/-- The sections of a mask below 64 that is not 0 name a section. -/
theorem sectionsOfByte_any (b : Byte) (h : b.toNat < 64) (n : b.toNat ≠ 0) :
    ∃ secs, sectionsOfByte b = some secs ∧ secs.any = true := by
  refine ⟨_, if_pos h, ?_⟩
  have e : ∀ n : Fin 64, n.val ≠ 0 → (n.val.testBit 0 || n.val.testBit 1 || n.val.testBit 2 || n.val.testBit 3 ||
      n.val.testBit 4 || n.val.testBit 5) = true := by decide
  exact e ⟨b.toNat, h⟩ n

/-- The record of a pass opened without SPRAY. -/
def openRecord (row passId start : Nat) (tools : ToolSet) (code : Nat) : PassRecord :=
  { row, passId, start, tools, rehearsal := code, spray := none, suspension := none, suspendedAt := none, suspensions := 0 }

section Fields

variable {r1 r0 p1 p0 s3 s2 s1 s0 tools code : Byte}

theorem passOfPayload_plain (h1 : 1 ≤ tools.toNat) (h3 : tools.toNat ≤ 3) (hc : code.toNat ≤ 3)
    (hs : bigEndian [s3, s2, s1, s0] ≤ 1048575) :
    passOfPayload [r1, r0, p1, p0, s3, s2, s1, s0, tools, code] =
      some (openRecord (256 * r1.toNat + r0.toNat) (256 * p1.toNat + p0.toNat) (bigEndian [s3, s2, s1, s0])
        ⟨tools.getLsbD 0, tools.getLsbD 1, false⟩ code.toNat, false) := by
  have spray : tools.getLsbD 2 = false := getLsbD_of_lt (k := 2) (by omega) le_rfl
  have empty : ¬ (⟨tools.getLsbD 0, tools.getLsbD 1, false⟩ : ToolSet) = ToolSet.empty :=
    fun e => by have := (lowTools_empty tools (by omega)).1 e; omega
  simp only [passOfPayload, toolSetOfByte_some (show tools.toNat < 8 by omega), spray, Option.bind_eq_bind, Option.bind_some,
    bigEndian_two]
  have range : (decide ((⟨tools.getLsbD 0, tools.getLsbD 1, false⟩ : ToolSet) = ToolSet.empty) || decide (3 < code.toNat) ||
      decide (Config.rpcMax < bigEndian [s3, s2, s1, s0])) = false := by
    rw [decide_eq_false empty, decide_eq_false (Nat.not_lt.2 hc), decide_eq_false (show ¬ Config.rpcMax < _ from Nat.not_lt.2 hs)]
    rfl
  rw [if_neg (by rw [range]; decide), if_neg (by decide)]
  rfl

theorem passOfPayload_bad (h : tools.toNat = 0 ∨ 7 < tools.toNat ∨ 3 < code.toNat ∨ 1048575 < bigEndian [s3, s2, s1, s0]) :
    passOfPayload [r1, r0, p1, p0, s3, s2, s1, s0, tools, code] = none := by
  by_cases h7 : 7 < tools.toNat
  · simp [passOfPayload, toolSetOfByte_none h7]
  · simp only [passOfPayload, toolSetOfByte_some (show tools.toNat < 8 by omega), Option.bind_eq_bind, Option.bind_some]
    refine if_pos ?_
    rcases h with h | h | h | h
    · have spray : tools.getLsbD 2 = false := getLsbD_of_lt (k := 2) (by omega) le_rfl
      rw [spray, decide_eq_true ((lowTools_empty tools (by omega)).2 h)]
      rfl
    · exact absurd h h7
    · simp [h]
    · simp [Config.rpcMax, h]

end Fields

theorem sprayFieldsOf_good {u1 u0 t1 t0 w1 w0 sec : Byte} (h : sec.toNat < 64) (n : sec.toNat ≠ 0)
    (lo : 1000 ≤ bigEndian [w1, w0]) (hi : bigEndian [w1, w0] ≤ 4000) :
    ∃ secs, sectionsOfByte sec = some secs ∧ sprayFieldsOf [u1, u0, t1, t0, w1, w0, sec] =
      some ({ product := bigEndian [u1, u0], rate := min 2000 (max 50 (bigEndian [t1, t0])), spacing := bigEndian [w1, w0]
              sections := secs }, decide (bigEndian [t1, t0] < 50) || decide (2000 < bigEndian [t1, t0])) := by
  obtain ⟨secs, e, any⟩ := sectionsOfByte_any sec h n
  refine ⟨secs, e, ?_⟩
  simp only [sprayFieldsOf, e, Option.bind_eq_bind, Option.bind_some, any, lo, hi, decide_true, Bool.and_self, if_true]

/-! ### The tests -/

section Tests

variable {tag : Byte} {bytes : List Byte} (hp : s.powered = true) (hm : s.mode = .idle) (hl : passLengthOk bytes = true)
  (ht : s.takes ⟨0x30#8, tag, bytes⟩ = true)

include hp hm hl ht

theorem exec_passOpen_busy (h : s.lgs.profilePending = true) : exec (.passOpen tag bytes) s =
    .next ((takeFrame ⟨0x30#8, tag, bytes⟩ s).refusedWith ⟨0x30#8, tag, bytes⟩ .busy) :=
  command_refused (kind := 0x30) hp ht (takeFrame_inIdle _ hm) hl (if_pos (by rw [takeFrame_lgs]; exact h))

theorem exec_passOpen_range (h : s.lgs.profilePending = false) (hb : passOfPayload bytes = none) : exec (.passOpen tag bytes) s =
    .next ((takeFrame ⟨0x30#8, tag, bytes⟩ s).refusedWith ⟨0x30#8, tag, bytes⟩ .outOfRange) := by
  refine command_refused (kind := 0x30) hp ht (takeFrame_inIdle _ hm) hl ?_
  simp only [takeFrame_lgs, h, hb]
  rfl

variable {p : PassRecord} {c : Bool} (h : s.lgs.profilePending = false) (hb : passOfPayload bytes = some (p, c))

include h hb

theorem exec_passOpen_noProfile (n : s.noProfile = true) : exec (.passOpen tag bytes) s =
    .next ((takeFrame ⟨0x30#8, tag, bytes⟩ s).refusedWith ⟨0x30#8, tag, bytes⟩ .noProfile) := by
  refine command_refused (kind := 0x30) hp ht (takeFrame_inIdle _ hm) hl ?_
  simp only [takeFrame_lgs, takeFrame_noProfile, h, hb, n]
  rfl

theorem exec_passOpen_band (n : s.noProfile = false) (b : s.stu.band.stops = true) : exec (.passOpen tag bytes) s =
    .next ((takeFrame ⟨0x30#8, tag, bytes⟩ s).refusedWith ⟨0x30#8, tag, bytes⟩ .band) := by
  refine command_refused (kind := 0x30) hp ht (takeFrame_inIdle _ hm) hl ?_
  simp only [takeFrame_lgs, takeFrame_noProfile, takeFrame_stu, h, hb, n, b]
  rfl

omit hp hm hl ht h hb in
theorem takeFrame_toolTests (f : Frame) (k : ToolSet) : (takeFrame f s).toolTests k = s.toolTests k := by
  rw [takeFrame_eq]; rfl

theorem exec_passOpen_tool (n : s.noProfile = false) (b : s.stu.band.stops = false) {r : Reason} (k : s.toolTests p.tools = some r) :
    exec (.passOpen tag bytes) s = .next ((takeFrame ⟨0x30#8, tag, bytes⟩ s).refusedWith ⟨0x30#8, tag, bytes⟩ r) := by
  refine command_refused (kind := 0x30) hp ht (takeFrame_inIdle _ hm) hl ?_
  simp only [takeFrame_lgs, takeFrame_noProfile, takeFrame_stu, takeFrame_toolTests, h, hb, n, b, k]
  rfl

theorem exec_passOpen (n : s.noProfile = false) (b : s.stu.band.stops = false) (k : s.toolTests p.tools = none) :
    let u := (takeFrame ⟨0x30#8, tag, bytes⟩ s).openPass p
    exec (.passOpen tag bytes) s = .next ((cascade u.openWorks u).replied ⟨0x30#8, tag, bytes⟩
      (.passOpen (cascade u.openWorks u).psc.pass c)) := by
  refine command_ok (kind := 0x30) (a := (State.openPass _ p, State.openWorks _, fun t => .passOpen t.psc.pass c)) hp ht
    (takeFrame_inIdle _ hm) hl ?_
  simp only [takeFrame_lgs, takeFrame_noProfile, takeFrame_stu, takeFrame_toolTests, h, hb, n, b, k]
  rfl

end Tests

theorem toolTests_noTank {k : ToolSet} (h : k.spray = true) (n : s.spg.tank = none) : s.toolTests k = some .noTank := by
  simp [State.toolTests, h, n]

theorem toolTests_noRegistration {k : ToolSet} (h : k.spray = true) (n : s.spg.tank ≠ none) (r : s.lgs.currentSlot = none) :
    s.toolTests k = some .noRegistration := by
  simp [State.toolTests, h, Option.isNone_eq_false_iff.2 (Option.isSome_iff_ne_none.2 n), r]

theorem toolTests_noProgram {k : ToolSet} (h : k.spray = false) (kp : k.pruner = true) (n : s.prs.program = none) :
    s.toolTests k = some .noProgram := by
  simp [State.toolTests, h, kp, n]

/-! ### The entries over an empty window -/

/-- Nothing in the window, no trunk, no run, the arm in: neither the weeder nor the pruner has anything to do at an entry. -/
structure Bare (s : State) : Prop where
  window : s.mpu.window = []
  trunks : s.ttr.trunks = []
  adm : s.stu.weederAdm = none
  armIn : armIsOut s.armNow = false
  run : s.prs.run = none

/-- From `s` to `t` the pass stays as it is, and the state stays bare. -/
structure StaysBare (s t : State) : Prop where
  psc : t.psc = s.psc
  window : t.mpu.window = s.mpu.window
  trunks : t.ttr.trunks = s.ttr.trunks
  adm : t.stu.weederAdm = s.stu.weederAdm
  arms : t.wsq.arm = s.wsq.arm ∧ t.wsq.simArm = s.wsq.simArm
  run : t.prs.run = s.prs.run

theorem Bare.of_stays {t : State} (h : Bare s) (k : StaysBare s t) : Bare t where
  window := k.window.trans h.window
  trunks := k.trunks.trans h.trunks
  adm := k.adm.trans h.adm
  armIn := by
    have e : t.armNow = s.armNow := by
      simp only [State.armNow, State.simMotion, State.rehearsal, State.inPass, k.psc, k.arms.1, k.arms.2]
      rfl
    rw [e]; exact h.armIn
  run := k.run.trans h.run

theorem StaysBare.trans {t u : State} (a : StaysBare s t) (b : StaysBare t u) : StaysBare s u :=
  ⟨b.psc.trans a.psc, b.window.trans a.window, b.trunks.trans a.trunks, b.adm.trans a.adm,
    ⟨b.arms.1.trans a.arms.1, b.arms.2.trans a.arms.2⟩, b.run.trans a.run⟩

theorem StaysBare.raise (s : State) (f : Flag) (d : Detail) : StaysBare s (s.raise f d) := by
  constructor <;> simp

theorem StaysBare.setCursor (s : State) (n : CursorName) (c : Cursor) : StaysBare s { s with mpu := s.mpu.setCursor n c } :=
  ⟨rfl, setCursor_window .., rfl, rfl, ⟨rfl, rfl⟩, rfl⟩

/-- Over an empty window every map position resolves to MISS (R73). -/
theorem resolve_empty {m : Mpu} (h : m.window = []) (p : Nat) : m.resolve p = .miss := by
  simp [Mpu.resolve, h]

theorem cursor_setCursor (m : Mpu) (n k : CursorName) (c : Cursor) :
    (m.setCursor n c).cursor k = if k = n then c else m.cursor k := by
  rcases n with _ | n <;> rcases k with _ | k <;> (try cases n) <;> (try cases k) <;> rfl

/-- A miss stretch begun or not: one or two hand-offs, that leave every resolution and the Spray Gate. -/
theorem run_missTest (n : Nat) (k : Tool) (ws : List Work) : ∃ m u, n ≤ m ∧ run (n + 2) (.missTest k :: ws) s = run m ws u ∧
    StaysBare s u ∧ (∀ c, (u.mpu.cursor c).res = (s.mpu.cursor c).res) ∧ u.spg = s.spg := by
  by_cases h : (s.selected k && (s.mpu.cursor (.tool k)).res == .miss && !(s.mpu.cursor (.tool k)).missStretch) = true
  · obtain ⟨c, d, hc, e⟩ : ∃ (c : Cursor) (d : Detail), c.res = (s.mpu.cursor (.tool k)).res ∧ d.isMinor = false ∧
        handle (.missTest k) s = ({ s with mpu := s.mpu.setCursor (.tool k) c }, [.occur .mapMiss d]) :=
      ⟨{ s.mpu.cursor (.tool k) with missStretch := true }, .mapMiss k _, rfl, rfl, if_pos h⟩
    refine ⟨n, _, le_rfl, (run_one e.2).trans (run_leaf (handle_occur_notMinor e.1)), (StaysBare.setCursor ..).trans (.raise ..),
      fun j => ?_, by rw [State.raise_spg]⟩
    rw [State.raise_mpu]
    simp only [cursor_setCursor]
    split
    · next e => rw [e]; exact hc
    · rfl
  · exact ⟨n + 1, s, Nat.le_succ n, run_leaf (if_neg h), ⟨rfl, rfl, rfl, rfl, ⟨rfl, rfl⟩, rfl⟩, fun _ => rfl, rfl⟩

/-- With the SPRAY cursor in MISS a decision neither opens a section nor seeks the reservation, and asks nothing (R154). -/
theorem handle_decide_miss (h : s.mpu.spray.res = .miss) : ∃ secs b, handle .decide s =
    ({ s with spg := { s.spg with sections := secs, openRec := s.spg.openRec.map fun r => r.decided secs b } }, []) := by
  have outside (t : SprayTerms) (sel : Bool) : (t.state sel false == .closed .reservation) = false := by
    simp only [SprayTerms.state]
    split
    · rfl
    · split <;> rfl
  have bay : s.mpu.cursorBay (.tool .spray) = none := by simp [Mpu.cursorBay, Mpu.cursor, h]
  have permission : s.permission .spray = some .passive := by simp [State.permission, Mpu.cursor, h]
  have mask : s.sprayTerms.mask = Six.all false := by simp [State.sprayTerms, bay]
  have wants : (s.sprayTerms.sections.map fun x => x == .closed .reservation).any = false := by
    simp only [SprayTerms.sections, mask, Six.zip, Six.all, Six.map, Six.any, outside]
    rfl
  refine ⟨s.sprayTerms.sections, (s.mpu.cursorBay (.tool .spray)).any Bay.sprayConfirmed, ?_⟩
  have query : (s.sprayTerms.permission == some .awaitConfirm) = false := by
    rw [show s.sprayTerms.permission = s.permission .spray from rfl, permission]
    rfl
  simp only [handle, spgDecide, wants, query, Bool.false_and, Bool.false_eq_true, if_false]

/-- What an entry of a cursor into MISS leaves: the pass, and of the resolutions its own alone changed. -/
structure EntersMiss (c : CursorName) (s t : State) : Prop where
  bare : StaysBare s t
  enters : (t.mpu.cursor c).res = .miss
  others : ∀ k, k ≠ c → (t.mpu.cursor k).res = (s.mpu.cursor k).res

/-- The open record of a pass with SPRAY over an empty window. -/
def MissRecord (s : State) : Prop := s.selected .spray = true → ∃ r, s.spg.openRec = some r ∧ r.bay = none ∧ r.flags.mapMiss = true

/-- What a tool's block does at the end of its cursor's entry. -/
def Tool.entryWork : Tool → Work
  | .weeder => .permission .weeder
  | .pruner => .permission .pruner
  | .spray => .sprayEntry

/-- The resolution set by an entry, and the tool's own test of a miss stretch. -/
theorem run_enter_tool (n : Nat) (k : Tool) (ws : List Work) : ∃ m u, n ≤ m ∧
    run (n + 3) (.enter (.tool k) .miss :: ws) s =
      run m (k.entryWork :: ws) u ∧
    EntersMiss (.tool k) s u ∧ u.spg = s.spg := by
  have entered : ∃ c : Cursor, c.res = .miss ∧ handle (.enter (.tool k) .miss) s = ({ s with mpu := s.mpu.setCursor (.tool k) c },
      [.missTest k, k.entryWork]) := by
    refine ⟨{ s.mpu.cursor (.tool k) with res := .miss, missStretch := (s.mpu.cursor (.tool k)).missStretch && !false }, rfl, ?_⟩
    cases k <;> rfl
  obtain ⟨c, hc, e⟩ := entered
  obtain ⟨m, u, hm, er, bare, res, spg⟩ := run_missTest (s := { s with mpu := s.mpu.setCursor (.tool k) c }) n k
    (k.entryWork :: ws)
  refine ⟨m, u, hm, ?_, ⟨(StaysBare.setCursor s (.tool k) c).trans bare, ?_, fun j hj => ?_⟩, spg⟩
  · rw [run_one e]
    exact er
  · rw [res, cursor_setCursor, if_pos rfl]
    exact hc
  · rw [res, cursor_setCursor, if_neg hj]

theorem run_enter_weeder (n : Nat) (ws : List Work) (h : Bare s) : ∃ m u, n ≤ m ∧
    run (n + 4) (.enter (.tool .weeder) .miss :: ws) s = run m ws u ∧ EntersMiss (.tool .weeder) s u ∧ u.spg = s.spg := by
  obtain ⟨m, u, hm, e, en, spg⟩ := run_enter_tool (s := s) (n + 1) .weeder ws
  obtain ⟨m, rfl⟩ : ∃ k, m = k + 1 := ⟨m - 1, by omega⟩
  have bu := h.of_stays en.bare
  have permission : u.permission .weeder = some .passive := by simp [State.permission, en.enters]
  refine ⟨m, u, by omega, e.trans (run_leaf ?_), en, spg⟩
  exact handle_drive_idle bu.adm bu.armIn (driveTerms_fail (.inr (.inr (by simp [State.permits, permission]))))
    (onlyPermission_off (.inr (.inr (by simp [permission]))))

theorem run_enter_pruner (n : Nat) (ws : List Work) (h : Bare s) : ∃ m u, n ≤ m ∧
    run (n + 5) (.enter (.tool .pruner) .miss :: ws) s = run m ws u ∧ EntersMiss (.tool .pruner) s u ∧ u.spg = s.spg := by
  obtain ⟨m, u, hm, e, en, spg⟩ := run_enter_tool (s := s) (n + 2) .pruner ws
  obtain ⟨m, rfl⟩ : ∃ k, m = k + 2 := ⟨m - 2, by omega⟩
  have bu := h.of_stays en.bare
  refine ⟨m, u, by omega, e.trans ?_, en, spg⟩
  rw [run_one (u := u) (vs := [.consider]) (by simp only [handle, prsPermission, bu.run]; rfl)]
  exact run_leaf (handle_consider_none u (by simp [Ttr.candidate, bu.trunks]))

theorem run_enter_spray (n : Nat) (ws : List Work) : ∃ m u, n ≤ m ∧
    run (n + 5) (.enter (.tool .spray) .miss :: ws) s = run m ws u ∧ EntersMiss (.tool .spray) s u ∧ MissRecord u := by
  obtain ⟨m, u, hm, e, en, -⟩ := run_enter_tool (s := s) (n + 2) .spray ws
  obtain ⟨m, rfl⟩ : ∃ k, m = k + 2 := ⟨m - 2, by omega⟩
  have entry : ∃ v : State, handle .sprayEntry u = (v, [.decide]) ∧ { v with spg := u.spg } = u ∧ MissRecord v := by
    cases hs : u.selected .spray with
    | true => exact ⟨{ u with spg := { u.spg with openRec := some u.newRecord } }, by simp [handle, spgEntry, hs], rfl,
        fun _ => ⟨_, rfl, by simp [State.newRecord, show u.mpu.spray.res = .miss from en.enters]⟩⟩
    | false => exact ⟨u, by simp [handle, spgEntry, hs], rfl, fun k => by rw [hs] at k; cases k⟩
  obtain ⟨v, ev, same, record⟩ := entry
  have mpu : v.mpu = u.mpu := by rw [← same]
  obtain ⟨secs, b, ed⟩ := handle_decide_miss (s := v) (by rw [mpu]; exact en.enters)
  refine ⟨m, _, by omega, e.trans ((run_one ev).trans (run_leaf ed)), ⟨en.bare.trans ?_, by simp only [mpu]; exact en.enters,
    by simp only [mpu]; exact en.others⟩, fun hs => ?_⟩
  · rw [← same]
    exact ⟨rfl, rfl, rfl, rfl, ⟨rfl, rfl⟩, rfl⟩
  · obtain ⟨r, hr, bay, miss⟩ := record hs
    exact ⟨r.decided secs b, by simp only [hr, Option.map_some], bay, miss⟩

theorem run_enter_reference (n : Nat) (ws : List Work) : ∃ m u, n ≤ m ∧
    run (n + 2) (.enter .reference .miss :: ws) s = run m ws u ∧ EntersMiss .reference s u ∧ u.spg = s.spg := by
  refine ⟨n, { s with mpu := s.mpu.setCursor .reference { s.mpu.reference with res := .miss, missStretch := _ } }, le_rfl,
    (run_one (vs := [.barredTest s.tools]) rfl).trans (run_leaf rfl), ⟨.setCursor .., rfl, fun k hk => ?_⟩, rfl⟩
  rw [cursor_setCursor, if_neg hk]

/-- The entries of a pass opened over an empty window, the arm in, no trunk left: every cursor in MISS, the pass as opened, and
with SPRAY a record of the stretch (R74, R86, R165). -/
theorem openWorks_bare (h : Bare s) : let t := cascade s.openWorks s
    t.psc = s.psc ∧ (∀ c, (t.mpu.cursor c).res = .miss) ∧ MissRecord t := by
  have works : s.openWorks = [.enter (.tool .weeder) .miss, .enter (.tool .pruner) .miss, .enter (.tool .spray) .miss,
      .enter .reference .miss] := by
    simp [State.openWorks, resolve_empty h.window]
  obtain ⟨m1, u1, n1, e1, w, -⟩ := run_enter_weeder 999999999996 [.enter (.tool .pruner) .miss, .enter (.tool .spray) .miss,
      .enter .reference .miss] h
  obtain ⟨m2, u2, n2, e2, p, -⟩ := run_enter_pruner (m1 - 5) [.enter (.tool .spray) .miss, .enter .reference .miss]
    (h.of_stays w.bare)
  obtain ⟨m3, u3, n3, e3, q, record⟩ := run_enter_spray (s := u2) (m2 - 5) [.enter .reference .miss]
  obtain ⟨m4, u4, -, e4, r, spg⟩ := run_enter_reference (s := u3) (m3 - 2) []
  rw [show m1 - 5 + 5 = m1 by omega] at e2
  rw [show m2 - 5 + 5 = m2 by omega] at e3
  rw [show m3 - 2 + 2 = m3 by omega, run_nil] at e4
  have e : cascade s.openWorks s = u4 := by
    rw [works]
    exact e1.trans (e2.trans (e3.trans e4))
  rw [e]
  refine ⟨r.bare.psc.trans (q.bare.psc.trans (p.bare.psc.trans w.bare.psc)), fun c => ?_, fun hs => ?_⟩
  · rcases c with _ | k
    · exact r.enters
    · rw [r.others _ (by simp)]
      cases k
      · rw [q.others _ (by simp), p.others _ (by simp)]; exact w.enters
      · rw [q.others _ (by simp)]; exact p.enters
      · exact q.enters
  · rw [spg]
    exact record (by rw [← hs]; simp only [State.selected, State.inPass, r.bare.psc])

/-! ### The pass opened -/

theorem openPass_bare {p : PassRecord} (window : s.mpu.window = []) (trunks : s.ttr.trunks = [])
    (arm : s.wsq.arm = some .retracted) (adm : s.stu.weederAdm = none) : Bare (s.openPass p) where
  window := by simp [State.openPass, window]
  trunks := trunks
  adm := adm
  armIn := by
    simp only [State.armNow]
    split
    · rfl
    · exact congrArg armIsOut arm
  run := rfl

theorem openWorks_plain : plain s.openWorks = true := plain_map _ _ fun _ => rfl

section Opened

variable {tag : Byte} {bytes : List Byte} {p : PassRecord} {c : Bool} (hp : s.powered = true) (hm : s.mode = .idle)
  (hl : passLengthOk bytes = true) (ht : s.takes ⟨0x30#8, tag, bytes⟩ = true) (h : s.lgs.profilePending = false)
  (hb : passOfPayload bytes = some (p, c))

/-- What every accepted opening leaves (R50, R86). -/
structure Opened (p : PassRecord) (u t : State) : Prop where
  base : SameBase (u.openPass p) t
  rpc : t.odu.rpc = 0
  offset : t.odu.offset = p.start
  prescaler : t.odu.prescaler = 0
  lastPost : t.odu.lastPost = none
  counter : t.ttr.counter = 0
  spacing : t.ttr.spacing = none

theorem Opened.of_base {u t : State} (base : SameBase (u.openPass p) t) : Opened p u t where
  base := base
  rpc := base.rpc
  offset := congrArg Odu.offset base.odu_eq
  prescaler := base.prescaler
  lastPost := congrArg Odu.lastPost base.odu_eq
  counter := base.counter
  spacing := base.spacing

/-- The entries over an empty window, the arm in, no trunk left (R74, R86, R165). -/
def OpenedOverNothing (p : PassRecord) (t : State) : Prop :=
  t.psc = ⟨.pass, some p, none⟩ ∧ (∀ tool, (t.mpu.cursor (.tool tool)).res = .miss) ∧ t.mpu.reference.res = .miss ∧
    (p.tools.spray = true → ∃ r, t.spg.openRec = some r ∧ r.bay = none ∧ r.flags.mapMiss = true)

theorem openedOverNothing {u : State} (bare : Bare (u.openPass p)) :
    OpenedOverNothing p (cascade (u.openPass p).openWorks (u.openPass p)) := by
  obtain ⟨psc, res, record⟩ := openWorks_bare bare
  refine ⟨psc, fun tool => res _, res .reference, fun spray => record ?_⟩
  simp only [State.selected, State.inPass, psc]
  exact spray

theorem OpenedOverNothing.replied {t : State} (h : OpenedOverNothing p t) (f : Frame) (r : OkResult) :
    OpenedOverNothing p (t.replied f r) := h

theorem SameBase.replied {u t : State} (h : SameBase u t) (f : Frame) (r : OkResult) : SameBase u (t.replied f r) :=
  h.trans (by constructor <;> rfl)

include hp hm hl ht h hb

theorem exec_passOpen_opens (n : s.noProfile = false) (b : s.stu.band.stops = false) (k : s.toolTests p.tools = none) :
    ∃ t, exec (.passOpen tag bytes) s = .next t ∧ Opened p (takeFrame ⟨0x30#8, tag, bytes⟩ s) t ∧
      (s.mpu.window = [] → s.ttr.trunks = [] → s.wsq.arm = some .retracted → s.stu.weederAdm = none → OpenedOverNothing p t) := by
  have e := exec_passOpen hp hm hl ht h hb n b k
  generalize (OkResult.passOpen _ c) = r at e
  refine ⟨_, e, .of_base ((cascade_base _ _ openWorks_plain).replied ..),
    fun window trunks arm adm => (openedOverNothing (openPass_bare ?_ ?_ ?_ ?_)).replied ..⟩
  · rw [takeFrame_mpu]; exact window
  · rw [takeFrame_ttr]; exact trunks
  · rw [takeFrame_wsq]; exact arm
  · rw [takeFrame_stu]; exact adm

end Opened

theorem passLengthOk_plain (r1 r0 p1 p0 s3 s2 s1 s0 tools code : Byte) (h : tools.toNat < 4) :
    passLengthOk [r1, r0, p1, p0, s3, s2, s1, s0, tools, code] = true := by
  simp only [passLengthOk, List.getElem?_cons_succ, List.getElem?_cons_zero]
  rw [if_neg (by rw [getLsbD_of_lt (k := 2) h le_rfl]; decide)]
  rfl

/-- Settles O30: the fields read from the payload, each test in its turn, the pass as it is opened and its entries. -/
theorem passOpening : Obligations.PassOpening := by
  refine ⟨fun r1 r0 p1 p0 s3 s2 s1 s0 tools code => ⟨fun h1 h3 hc hs =>
      ⟨passLengthOk_plain _ _ _ _ _ _ _ _ _ _ (by omega), passOfPayload_plain h1 h3 hc hs⟩,
    passOfPayload_bad, fun _ _ _ _ _ _ _ h n lo hi => sprayFieldsOf_good h n lo hi⟩, ?tests⟩
  case tests =>
    intro tag bytes s hp hm hl f ht u
    refine ⟨exec_passOpen_busy hp hm hl ht, exec_passOpen_range hp hm hl ht, ?_⟩
    intro p c h hb
    refine ⟨exec_passOpen_noProfile hp hm hl ht h hb, exec_passOpen_band hp hm hl ht h hb,
      fun n b k e => exec_passOpen_tool hp hm hl ht h hb n b (toolTests_noTank k e),
      fun n b k e r => exec_passOpen_tool hp hm hl ht h hb n b (toolTests_noRegistration k e r),
      fun n b k kp e => exec_passOpen_tool hp hm hl ht h hb n b (toolTests_noProgram k kp e), ?_⟩
    intro n b k
    obtain ⟨t, e, o, rest⟩ := exec_passOpen_opens hp hm hl ht h hb n b k
    exact ⟨t, e, o.base, o.rpc, o.offset, o.prescaler, o.lastPost, o.counter, o.spacing, rest⟩

end Sys2Proof.Machine

/-! PROOFS. The hand-offs that are carried out between blocks without a move of a cursor, a new trunk or the end of a pass: they
hand on one another alone, leave the Odometry Unit, the window, every cursor's position and resolution, and, past STARTUP, the
mode. -/

namespace Sys2Proof.Machine

variable {s : State}

/-! ### The class -/

/-- The hand-offs that one block's report to another can bring about. The last row belongs to STARTUP, where no pass is open. -/
def Work.inner (live : Bool) : Work → Bool
  | .occur _ d => !d.isMinor
  | .arm st => st != .stalled
  | .compute _ | .takeResult | .ceiling | .evalWaiting | .evalOne _ | .trip _ | .bandGiven | .reload _ | .tankReport _ | .ask _ _
  | .withdraw _ | .moveStarted _ | .answer _ _ | .clearWeeder _ | .purge | .actQuery _ | .suspend _ | .drive | .immediate | .lift
  | .rebuild | .queueFull _ | .weederTrip | .weederStop | .overflow _ | .issue _ | .rest | .headDone | .consider | .startRun _
  | .enterPhase _ | .phaseEnd | .endRun _ | .outcome _ _ | .skipAll | .haltDone | .prunerTrip | .prunerStop | .decide | .seek
  | .takeOff | .sprayStop | .startEndTest => true
  | .major .log _ | .majorFlag _ _ _ | .enterLockout | .halt | .nearFull | .startReports | .startEnd => !live
  | _ => false

/-- What a state has to be for the class to be closed: past STARTUP, or with no pass open. -/
structure Settled (live : Bool) (s : State) : Prop where
  past : live = true → s.mode ≠ .startup
  noPass : live = false → s.inPass = false

theorem Work.inner_plain {l : Bool} {w : Work} (h : w.inner l = true) : plain [w] = true := by
  cases w <;> first | rfl | cases h

theorem inner_reports (l : Bool) : OfReports fun v => v.inner l :=
  ⟨fun _ => rfl, fun _ _ _ => rfl, rfl, fun _ _ _ => rfl⟩

theorem not_inPass (h : s.inPass = false) : s.running = false ∧ ∀ k, s.selected k = false := by
  simp [State.running, State.selected, h]

/-- Nothing of the class hands on what is not of it. -/
theorem inner_all {l : Bool} {w : Work} (h : Settled l s) (k : w.inner l = true) :
    ((handle w s).2.all fun v => v.inner l) = true := by
  cases w
  case occur f d => rw [handle_occur_notMinor (by simpa [Work.inner] using k)]; rfl
  case major c o =>
    cases c
    case log => simpa [handle, cduMajor, majorEffect, Work.inner] using k
    all_goals cases k
  case majorFlag c o m =>
    simp only [handle, cduMajorFlag]
    repeat' (first | rfl | exact Bool.and_eq_true_iff.2 ⟨k, rfl⟩ | split)
  case enterLockout =>
    have p := h.noPass (by simpa [Work.inner] using k)
    simp [handle, cduLockout, p, Work.inner]
  case halt =>
    have p := h.noPass (by simpa [Work.inner] using k)
    simp [handle, lgsHalt, (not_inPass p).2, Work.inner]
  case nearFull =>
    simp only [handle, lgsNearFull]
    split <;> rfl
  case startReports =>
    have n : (!l) = true := k
    simp only [handle, lgsStartReports]
    repeat' split
    all_goals simp [Work.inner, n, Detail.isMinor]
  case startEndTest =>
    cases l with
    | true => rw [handle_startEndTest_live (h.past rfl)]; rfl
    | false => simp only [handle, mlkStartEndTest]; split <;> rfl
  case seek =>
    simp only [handle, spgSeek, spgGrant]
    repeat' (first | rfl | (rw [List.all_append, chargePending_all (inner_reports _)]; rfl) | split)
  case takeOff =>
    simp only [handle, spgTakeOff]
    split
    · next e => rw [List.all_append, charge_all (inner_reports _) e]; rfl
    · rfl
  case skipAll => exact all_map _ _ _ fun _ => rfl
  case rebuild =>
    simp only [handle, wsqRebuild, List.all_append, Bool.and_eq_true]
    refine ⟨⟨⟨all_map _ _ _ fun _ => rfl, ?_⟩, ?_⟩, rfl⟩
    · exact List.all_eq_true.2 fun v hv => by
        obtain ⟨st, -, hv⟩ := List.mem_flatMap.1 hv
        obtain ⟨n, -, rfl⟩ := List.mem_map.1 hv
        rfl
    · split <;> rfl
  case trip c =>
    simp only [handle, stuTrip]
    repeat' (first | rfl | split)
  case arm st =>
    cases st
    case stalled => cases k
    all_goals
      simp only [handle, wsqArm]
      repeat' (first | rfl | split)
  case answer r a =>
    cases r <;> cases a <;> simp only [handle, wsqAnswer, prsAnswer] <;> repeat' (first | rfl | split)
  case permission t => cases t <;> cases k
  case compute | takeResult | ceiling | evalWaiting | evalOne | bandGiven | reload | tankReport | ask | withdraw | moveStarted
      | clearWeeder | purge | actQuery | suspend | drive | immediate | lift | queueFull | weederTrip | weederStop | overflow
      | issue | rest | headDone | consider | startRun | enterPhase | phaseEnd | endRun | outcome | haltDone | prunerTrip
      | prunerStop | decide | sprayStop | startEnd =>
    simp only [handle, stuCompute, Published.clipReport, stuTakeResult, stuCeiling, stuEvalWaiting, stuEvaluate, stuBandGiven,
      stuReload, stuTankReport, stuItem, stuAsk, stuWithdraw, stuMoveStarted, ttrClearWeeder, ttrPurge, mpuActQuery, pscSuspend,
      wsqDrive, wsqImmediate, wsqLift, wsqQueueFull, wsqTrip, wsqStop, wsqOverflow, prsIssue, prsRest, prsHeadDone, prsConsider,
      prsStartRun, prsEnterPhase, prsPhaseEnd, prsEndRun, prsOutcome, prsHaltDone, prsTrip, prsStop, spgDecide, spgStop, mlkStartEnd]
    repeat' (first | rfl | split)
  all_goals cases k

theorem inner_works {l : Bool} {w : Work} (h : Settled l s) (k : w.inner l = true) : ∀ v ∈ (handle w s).2, v.inner l = true :=
  List.all_eq_true.1 (inner_all h k)

/-- Past STARTUP the class leaves the mode, and of the pass record no more than a suspension changes. -/
theorem inner_psc {w : Work} (k : w.inner true = true) (n : ∀ c, w ≠ .suspend c) : (handle w s).1.psc = s.psc := by
  refine (handle_leaves w s).psc ?_
  cases w
  case suspend c => exact absurd rfl (n c)
  all_goals first | rfl | cases k

theorem handle_suspend_mode (c : Suspension) : (handle (.suspend c) s).1.mode = s.mode := by
  simp only [handle, pscSuspend]
  repeat' split
  all_goals rfl

theorem inner_mode {w : Work} (k : w.inner true = true) : (handle w s).1.mode = s.mode := by
  by_cases n : ∃ c, w = .suspend c
  · obtain ⟨c, rfl⟩ := n
    exact handle_suspend_mode c
  · exact congrArg Psc.mode (inner_psc k fun c e => n ⟨c, e⟩)

/-- Where no pass is open none is opened. -/
theorem handle_noPass (w : Work) (h : s.inPass = false) : (handle w s).1.inPass = false := by
  cases hc : w.changesPsc with
  | false => rw [State.inPass, (handle_leaves w s).psc hc]; exact h
  | true =>
    cases w
    case suspend c => rw [handle_suspend_idle s c h]; exact h
    case enterLockout => rfl
    case startEnd => simp only [handle, mlkStartEnd, State.inPass]; split <;> rfl
    case passEnd r => simp only [handle, pscEnd]; split <;> exact h
    case dropSprayFields => simp only [handle, pscDropFields, State.setPass]; split <;> exact h
    all_goals cases hc

theorem Settled.handle {l : Bool} {w : Work} (h : Settled l s) : Settled l (handle w s).1 where
  past e := (handle_opensNothing w s).startup (h.past e)
  noPass e := handle_noPass w (h.noPass e)

/-- Whether STARTUP is over, a state is settled for one of the two classes. -/
theorem exists_settled (s : State) : ∃ l, Settled l s := by
  cases h : s.mode with
  | startup => exact ⟨false, fun e => (nomatch e), fun _ => by simp [State.inPass, show s.psc.mode = .startup from h]⟩
  | _ => exact ⟨true, fun _ => by rw [h]; decide, fun e => (nomatch e)⟩

/-- A state with the hand-offs of the class that wait. -/
structure Inner (l : Bool) (s : State) (ws : List Work) : Prop where
  settled : Settled l s
  works : ∀ w ∈ ws, w.inner l = true

theorem Inner.head {l : Bool} {w : Work} {ws : List Work} (h : Inner l s (w :: ws)) : w.inner l = true :=
  h.works w (List.mem_cons_self ..)

theorem Inner.step {l : Bool} {w : Work} {ws : List Work} (h : Inner l s (w :: ws)) :
    Inner l (handle w s).1 ((handle w s).2 ++ ws) where
  settled := h.settled.handle
  works v hv := (List.mem_append.1 hv).elim (inner_works h.settled h.head v) fun m => h.works v (List.mem_cons_of_mem _ m)

/-! ### Where the hand-offs of a pass come from -/

/-- The hand-off `v` can come from the hand-off `w`: said closely for what moves cursors, trunks, claims, the run, the queue, the
pass and the sections, true of what follows a load, a result, a write or a flag. -/
def Work.origin (v w : Work) : Bool :=
  match v with
  | .rpcChanged _ | .queueTrunk _ _ | .trunkLost _ _ | .prunerResume | .dropSprayFields | .roomReport | .profileTaken _ _ => false
  | .occur .mapMiss _ => (w matches .missTest _)
  | .occur .reverseStop _ => (w matches .reverseTest _)
  | .occur .confirmRequest _ => (w matches .actQuery _)
  | .occur .trunkOverflow _ => false
  | .major _ _ => (w matches .occur _ _ | .startReports)
  | .majorFlag _ _ _ | .sensorFault | .prunerFault | .halt => (w matches .major _ _)
  | .enterLockout => (w matches .majorFlag _ _ _)
  | .startReports | .startEnd => (w matches .startEndTest)
  | .trip _ => (w matches .takeResult | .sensorFault)
  | .bandGiven => (w matches .takeResult | .recover)
  | .ask .weeder _ => (w matches .drive | .permission .weeder)
  | .ask .pruner _ => (w matches .enterPhase _)
  | .answer _ .admitted => (w matches .ask _ _ | .evalOne _)
  | .answer _ .refused => (w matches .ask _ _ | .evalOne _ | .trip _)
  | .reverseTest _ | .mapMove => (w matches .rpcChanged _)
  | .moveCursor _ => (w matches .mapMove)
  | .enter _ _ => (w matches .moveCursor _)
  | .missTest _ | .permission _ => (w matches .enter _ _)
  | .barredTest _ => (w matches .enter .reference _)
  | .sprayEntry => (w matches .enter (.tool .spray) _)
  | .closeRecord => (w matches .moveCursor (.tool .spray) | .enterLockout)
  | .trunksEnd | .mapEnd | .passEnd _ | .weederEnd | .prunerEnd _ => (w matches .enterLockout)
  | .suspend _ => (w matches .trip _ | .halt | .reverseTest _ | .barredTest _)
  | .weederStop | .prunerStop | .sprayStop => (w matches .suspend _)
  | .weederTrip | .prunerTrip => (w matches .trip _)
  | .weederWithheld _ => (w matches .arm .stalled | .major _ _)
  | .trunksDrop _ => (w matches .weederWithheld _)
  | .fire => (w matches .rpcChanged _ | .fire)
  | .fireEnd _ => (w matches .fire)
  | .immediate => (w matches .queueFull _ | .queueTrunk _ _ | .weederTrip)
  | .lift => (w matches .fire | .immediate)
  | .rebuild => (w matches .lift)
  | .queueFull _ => (w matches .queueTrunk _ _ | .weederTrip)
  | .clearWeeder _ => (w matches .fire | .rebuild | .queueTrunk _ _)
  | .purge => (w matches .clearWeeder _ | .outcome _ _ | .trunksDrop _)
  | .overflow full => !full && (w matches .purge)
  | .rest => (w matches .endRun _ | .haltDone | .prunerTrip | .prunerStop | .prunerFault | .prunerEnd _)
  | .issue _ => (w matches .rest | .answer .pruner .admitted | .enterPhase .move | .startEnd | .prunerEnd _)
  | .headDone => (w matches .issue _)
  | .consider => (w matches .issue _ | .headDone | .consider | .endRun _ | .permission .pruner | .prunerResume | .rpcChanged _)
  | .startRun _ => (w matches .consider)
  | .enterPhase _ => (w matches .startRun _ | .phaseEnd | .prunerResume)
  | .phaseEnd => (w matches .enterPhase _ | .headDone)
  | .endRun _ => (w matches .phaseEnd | .prunerStop | .prunerResume | .prunerFault | .permission .pruner)
  | .outcome _ _ => (w matches .consider | .endRun _ | .skipAll)
  | .skipAll => (w matches .endRun _ | .haltDone | .prunerFault)
  | .haltDone => (w matches .endRun _)
  | .decide => (w matches .trip _ | .bandGiven | .enterLockout | .takeOff | .seek | .roomReport | .sprayEntry | .sprayStop | .halt
      | .startEnd)
  | .seek => (w matches .decide | .permission .spray | .seekForFlow)
  | .takeOff => (w matches .takeOff)
  | _ => true

/-- What holds of the reports of a millilitre, where the pulse or the grant that takes it off hands on a decision. -/
theorem origin_reports {w : Work} (h : (w matches .takeOff | .seek) = true) : OfReports fun v => v.origin w := by
  refine ⟨fun _ => rfl, fun _ _ _ => rfl, ?_, fun _ _ _ => rfl⟩
  cases w <;> first | rfl | cases h

theorem handle_origin (w : Work) (s : State) : ((handle w s).2.all fun v => v.origin w) = true := by
  cases w
  case answer r a =>
    cases r <;> cases a <;> cases hr : s.prs.run <;> simp only [handle, wsqAnswer, prsAnswer, hr]
    all_goals repeat' (first | rfl | split)
  case permission t => cases t <;> simp only [handle, wsqDrive, prsPermission, spgDecide] <;> repeat' (first | rfl | split)
  case occur f d =>
    simp only [handle, cduOccur]
    repeat' (first | rfl | split)
  case major c o => cases c <;> rfl
  case takeOff =>
    simp only [handle, spgTakeOff]
    split
    · next h => rw [List.all_append, charge_all (origin_reports rfl) h]; rfl
    · rfl
  case seek =>
    simp only [handle, spgSeek, spgGrant]
    repeat' (first | rfl | (rw [List.all_append, chargePending_all (origin_reports rfl)]; rfl) | split)
  case mapMove => exact all_map _ _ _ fun _ => rfl
  case skipAll => exact all_map _ _ _ fun _ => rfl
  case rebuild =>
    simp only [handle, wsqRebuild, List.all_append, Bool.and_eq_true]
    refine ⟨⟨⟨all_map _ _ _ fun _ => rfl, ?_⟩, ?_⟩, rfl⟩
    · exact List.all_eq_true.2 fun v hv => by
        obtain ⟨st, -, hv⟩ := List.mem_flatMap.1 hv
        obtain ⟨n, -, rfl⟩ := List.mem_map.1 hv
        rfl
    · split <;> rfl
  case moveCursor c =>
    rcases c with _ | t <;> simp only [handle, mpuMoveCursor, mpuExit] <;> (try cases t)
    all_goals repeat' (first | rfl | split)
  case enter c r => rcases c with _ | t <;> (try cases t) <;> rfl
  case evalOne r => cases r <;> simp only [handle, stuEvaluate] <;> repeat' (first | rfl | split)
  case ask r p => cases r <;> simp only [handle, stuAsk, stuEvaluate] <;> repeat' (first | rfl | split)
  case arm st => cases st <;> simp only [handle, wsqArm] <;> repeat' (first | rfl | split)
  case enterPhase p => cases p <;> simp only [handle, prsEnterPhase] <;> repeat' (first | rfl | split)
  all_goals
    simp only [handle, cduMajorFlag, cduLockout, stuCompute, Published.clipReport, stuTakeResult, stuRecover, stuProfile,
      stuCeiling, stuEvalWaiting, mlkFrameIn,
      stuTrip, stuBandGiven, stuReload, stuTankReport, stuItem, stuWithdraw, stuMoveStarted, stuSensorFault, oduRpcChanged,
      oduReverseTest, ttrClearWeeder, ttrPurge, ttrEnd, ttrDrop, mpuMissTest, mpuBarredTest, mpuActQuery,
      mpuEnd, pscSuspend, pscEnd, pscDropFields, wsqDrive, wsqFire, wsqFireEnd, wsqImmediate, wsqLift,
      wsqQueueTrunk, wsqQueueFull, wsqWithheld, wsqTrip, wsqStop, wsqEnd, wsqOverflow, prsIssue,
      prsRest, prsHeadDone, prsConsider, prsStartRun, prsPhaseEnd, prsEndRun, prsOutcome,
      prsHaltDone, prsTrip, prsFault, prsStop, prsResume, prsEnd, prsTrunkLost, spgDecide,
      spgSeekForFlow, spgEntry, spgClose, spgStop, spgRoomReport, lgsStage, lgsArbiter, lgsHalt,
      lgsNearFull, lgsStartReports, mlkStartEndTest, mlkStartEnd, mlkDiscard]
    repeat' (first | rfl | split)

theorem origin_of_mem {v w : Work} (h : v ∈ (handle w s).2) : v.origin w = true := List.all_eq_true.1 (handle_origin w s) v h

/-! ### What the class leaves -/

theorem inner_odu {l : Bool} {w : Work} (k : w.inner l = true) : (handle w s).1.odu = s.odu := by
  refine (handle_keeps w s).odu ?_
  cases w <;> first | rfl | cases k

/-- The Map Unit but for the marks of the act queries (R77). -/
structure SameMap (m n : Mpu) : Prop where
  window : n.window = m.window
  cursor : ∀ c, (n.cursor c).pos = (m.cursor c).pos ∧ (n.cursor c).res = (m.cursor c).res ∧
    (n.cursor c).missStretch = (m.cursor c).missStretch

theorem SameMap.refl (m : Mpu) : SameMap m m := ⟨rfl, fun _ => ⟨rfl, rfl, rfl⟩⟩

theorem SameMap.trans {a b c : Mpu} (h : SameMap a b) (k : SameMap b c) : SameMap a c where
  window := k.window.trans h.window
  cursor n := ⟨(k.cursor n).1.trans (h.cursor n).1, (k.cursor n).2.1.trans (h.cursor n).2.1, (k.cursor n).2.2.trans (h.cursor n).2.2⟩

theorem handle_actQuery_map (t : Tool) : SameMap s.mpu (handle (.actQuery t) s).1.mpu := by
  have marked (c : Cursor) (hc : c.pos = (s.mpu.cursor (.tool t)).pos) (hr : c.res = (s.mpu.cursor (.tool t)).res)
      (hm : c.missStretch = (s.mpu.cursor (.tool t)).missStretch) : SameMap s.mpu (s.mpu.setCursor (.tool t) c) := by
    refine ⟨setCursor_window .., fun n => ?_⟩
    rw [cursor_setCursor]
    split
    · next e => rw [e]; exact ⟨hc, hr, hm⟩
    · exact ⟨rfl, rfl, rfl⟩
  simp only [handle, mpuActQuery]
  repeat' split
  all_goals first | exact .refl _ | exact marked _ rfl rfl rfl

theorem inner_map {l : Bool} {w : Work} (k : w.inner l = true) : SameMap s.mpu (handle w s).1.mpu := by
  cases hc : w.changesMpu with
  | false => rw [(handle_leaves w s).mpu hc]; exact .refl _
  | true =>
    cases w
    case actQuery t => exact handle_actQuery_map t
    all_goals first | exact Bool.noConfusion k | exact Bool.noConfusion hc

theorem SameMap.permission {t : State} (h : SameMap s.mpu t.mpu) (k : Tool) : t.permission k = s.permission k := by
  simp only [State.permission, (h.cursor (.tool k)).2.1, Mpu.bay, h.window]

theorem SameMap.cursorBay {m n : Mpu} (h : SameMap m n) (c : CursorName) : n.cursorBay c = m.cursorBay c := by
  simp only [Mpu.cursorBay, (h.cursor c).2.1, Mpu.bay, h.window]

end Sys2Proof.Machine

/-! PROOFS. PASS_RESUME: its tests, the RUNNING pass it leaves, the weeder's rebuild (R51, R100, R101, R113, R127). -/

namespace Sys2Proof.Machine

variable {s : State}

/-- The state in which the pass is RUNNING again, its hand-offs still to come (R51, R101). -/
def State.resumed (s : State) : State :=
  { s with psc := { s.psc with pass := s.psc.pass.map fun p => { p with suspension := none } }
           odu := { s.odu with furthest := s.odu.rpc } }

/-- What the reply of a resume carries (R100). -/
def State.resumeReply (s : State) : OkResult := .passResume s.running (s.psc.pass.bind fun p => p.suspension)

theorem running_of_pass {p : PassRecord} (hm : s.mode = .pass) (hp : s.psc.pass = some p) : s.running = p.suspension.isNone := by
  simp [State.running, inPass_iff.2 hm, hp]

/-! ### The hand-offs of a resume -/

/-- The hand-offs of a resume: the mode and the furthest count stay, and a trip alone suspends the pass again. -/
structure Resumes (n : Nat) (s : State) (ws : List Work) : Prop where
  mode : s.mode = .pass
  works : ∀ w ∈ ws, w.inner true = true ∨ w = .prunerResume
  furthest : s.odu.furthest = n
  runs : s.running = true ∨ s.stu.band.stops = true
  suspends : ∀ c, Work.suspend c ∈ ws → s.stu.band.stops = true

theorem prunerResume_works : ∀ v ∈ (handle .prunerResume s).2, v.inner true = true := by
  refine List.all_eq_true.1 ?_
  simp only [handle, prsResume]
  repeat' (first | rfl | split)

/-- A trip that suspends the pass stops the tools (R31). -/
theorem handle_trip_suspends {c : TripCause} {d : Suspension} (h : Work.suspend d ∈ (handle (.trip c) s).2) :
    (handle (.trip c) s).1.stu.band.stops = true := by
  rcases handle_trip_cases (s := s) c with e | ⟨r, k, n, -, -, e⟩
  · rw [e] at h; cases h
  · rw [e]
    simp only [State.tripped]
    split <;> rfl

theorem Resumes.step {n : Nat} {w : Work} {ws : List Work} (h : Resumes n s (w :: ws)) :
    Resumes n (handle w s).1 ((handle w s).2 ++ ws) := by
  obtain ⟨mode, works, furthest, runs, suspends⟩ := h
  obtain ⟨head, rest⟩ := List.forall_mem_cons.1 works
  have settled : Settled true s := ⟨fun _ => by rw [mode]; decide, fun e => nomatch e⟩
  have plain : plain [w] = true := by rcases head with k | rfl <;> first | exact Work.inner_plain k | rfl
  have stopped (b : s.stu.band.stops = true) : (handle w s).1.stu.band.stops = true := by
    rw [(handle_stopped plain b).1]; exact b
  refine ⟨?mode, fun v hv => ?works, ?furthest, ?runs, fun c hc => ?suspends⟩
  case mode =>
    rcases head with k | rfl
    · exact (inner_mode k).trans mode
    · exact (congrArg Psc.mode ((handle_leaves _ s).psc rfl)).trans mode
  case works =>
    rcases List.mem_append.1 hv with hv | hv
    · rcases head with k | rfl
      · exact .inl (inner_works settled k v hv)
      · exact .inl (prunerResume_works v hv)
    · exact rest v hv
  case furthest =>
    rw [(handle_keeps w s).odu (by rcases head with k | rfl <;> [(cases w <;> first | rfl | cases k); rfl])]
    exact furthest
  case runs =>
    by_cases sus : ∃ c, w = .suspend c
    · obtain ⟨c, rfl⟩ := sus
      exact .inr (stopped (suspends c (List.mem_cons_self ..)))
    · refine runs.imp (fun r => ?_) stopped
      rw [← r]
      refine handle_running ?_
      rcases head with k | rfl
      · cases w
        case suspend c => exact absurd ⟨c, rfl⟩ sus
        all_goals first | rfl | cases k
      · rfl
  case suspends =>
    rcases List.mem_append.1 hc with hc | hc
    · have o := origin_of_mem hc
      rcases head with k | rfl
      · cases w
        case trip => exact handle_trip_suspends hc
        all_goals first | exact Bool.noConfusion k | exact Bool.noConfusion o
      · exact Bool.noConfusion o
    · exact stopped (suspends c (List.mem_cons_of_mem _ hc))

theorem cascade_resumes {p : PassRecord} (hm : s.mode = .pass) (hp : s.psc.pass = some p) :
    Resumes s.odu.rpc (cascade [.rebuild, .prunerResume, .decide] s.resumed) [] := by
  have init : Resumes s.odu.rpc s.resumed [.rebuild, .prunerResume, .decide] := by
    refine ⟨hm, by simp [Work.inner], rfl, .inl ?_, by simp⟩
    have pass : s.resumed.psc.pass = some { p with suspension := none } := by simp only [State.resumed, hp]; rfl
    exact running_of_pass (s := s.resumed) hm pass
  rcases run_induct (P := Resumes s.odu.rpc) (fun u w ws q => q.step) Config.handOffBound _ _ init with q | ⟨u, vs, q, e⟩
  · exact q
  · show Resumes _ (run _ _ _) _
    rw [e]
    exact ⟨q.mode, by simp, q.furthest, q.runs, by simp⟩

/-! ### The rebuild of an empty list -/

/-- With no trunk in the list a rebuild leaves no entry and the intent OUT (R113). -/
theorem handle_rebuild_empty (h : s.ttr.trunks = []) : handle .rebuild s =
    ({ s with wsq := { s.wsq with queue := [], holdQueue := false, intent := .armOut } }, [.drive]) := by
  simp [handle, wsqRebuild, h, fitStretches]

theorem cascade_resumed_idle (t : s.ttr.trunks = []) (r : s.prs.run = none) (a : s.stu.weederAdm = none)
    (o : armIsOut s.armNow = false) (w : s.selected .weeder = false) (k : s.selected .spray = false) :
    cascade [.rebuild, .prunerResume, .decide] s =
      { s with wsq := { s.wsq with queue := [], holdQueue := false, intent := .armOut }
               spg := { s.spg with sections := Six.all (.closed .notRunning) } } := by
  let u : State := { s with wsq := { s.wsq with queue := [], holdQueue := false, intent := .armOut } }
  have drive : handle .drive u = (u, []) :=
    handle_drive_idle a o (driveTerms_fail (.inr (.inl w))) (onlyPermission_off (.inr (.inl w)))
  have resume : handle .prunerResume u = (u, [.consider]) := by simp [handle, prsResume, u, r]
  have consider : handle .consider u = (u, []) := handle_consider_none u (by simp [u, Ttr.candidate, t])
  have decide : handle .decide u = ({ u with spg := { u.spg with sections := Six.all (.closed .notRunning) } }, []) :=
    handle_decide_off u (Bool.and_eq_false_iff.2 (.inr k))
  rw [cascade_eq, run_one (handle_rebuild_empty t)]
  refine (run_leaf drive).trans ((run_one resume).trans ((run_leaf consider).trans ((run_leaf decide).trans ?_)))
  rw [run_nil]

/-! ### The command -/

section Command

variable {tag : Byte} {p : PassRecord} (hp : s.powered = true) (hm : s.mode = .pass) (hpass : s.psc.pass = some p)
  (ht : s.takes ⟨0x32#8, tag, []⟩ = true)

theorem takeFrame_barredAhead (f : Frame) : (takeFrame f s).barredAhead = s.barredAhead := by rw [takeFrame_eq]; rfl

include hp hm hpass ht

theorem exec_passResume_refused {r : Reason} (h : r = .wrongMode ∧ p.suspension = none ∨
    r = .band ∧ p.suspension ≠ none ∧ s.stu.band.stops = true ∨
    r = .barredAhead ∧ p.suspension ≠ none ∧ s.stu.band.stops = false ∧ s.barredAhead = true) :
    exec (.passResume tag []) s = .next ((takeFrame ⟨0x32#8, tag, []⟩ s).refusedWith ⟨0x32#8, tag, []⟩ r) := by
  refine command_refused (kind := 0x32) hp ht ((takeFrame_inPass _ _).trans (inPass_iff.2 hm)) rfl ?_
  simp only [takeFrame_running, takeFrame_stu, takeFrame_barredAhead, running_of_pass hm hpass]
  rcases h with ⟨rfl, h⟩ | ⟨rfl, n, b⟩ | ⟨rfl, n, b, a⟩
  · rw [h]; rfl
  · rw [Option.isNone_eq_false_iff.2 (Option.isSome_iff_ne_none.2 n), b]; rfl
  · rw [Option.isNone_eq_false_iff.2 (Option.isSome_iff_ne_none.2 n), b, a]; rfl

theorem exec_passResume (n : p.suspension ≠ none) (b : s.stu.band.stops = false) (a : s.barredAhead = false) :
    exec (.passResume tag []) s = .next ((cascade [.rebuild, .prunerResume, .decide] (takeFrame ⟨0x32#8, tag, []⟩ s).resumed).replied
      ⟨0x32#8, tag, []⟩ (cascade [.rebuild, .prunerResume, .decide] (takeFrame ⟨0x32#8, tag, []⟩ s).resumed).resumeReply) := by
  refine command_ok (kind := 0x32) (a := (State.resumed _, [.rebuild, .prunerResume, .decide], State.resumeReply)) hp ht
    ((takeFrame_inPass _ _).trans (inPass_iff.2 hm)) rfl ?_
  have running : (takeFrame ⟨0x32#8, tag, []⟩ s).running = false := by
    rw [takeFrame_running, running_of_pass hm hpass]
    exact Option.isNone_eq_false_iff.2 (Option.isSome_iff_ne_none.2 n)
  have band : (takeFrame ⟨0x32#8, tag, []⟩ s).stu.band.stops = false := by rw [takeFrame_stu]; exact b
  have ahead : (takeFrame ⟨0x32#8, tag, []⟩ s).barredAhead = false := (takeFrame_barredAhead _).trans a
  simp only [running, band, ahead]
  rfl

end Command

theorem armIn_of_retracted (arm : s.wsq.arm = some .retracted) (sim : s.wsq.simArm = .retracted) : armIsOut s.armNow = false := by
  simp only [State.armNow]
  split <;> simp [armIsOut, arm, sim]

theorem resumed_selected {p : PassRecord} {k : Tool} (hp : s.psc.pass = some p) (h : p.tools.has k = false) :
    s.resumed.selected k = false := by
  simp [State.selected, State.resumed, hp, h]

/-- The resume without a trunk left, from the frame taken to the reply (R100, R113). -/
theorem resumed_replied {p : PassRecord} {f : Frame} (hm : s.mode = .pass) (hp : s.psc.pass = some p) :
    let u := (takeFrame f s).resumed
    let t : State := { u with wsq := { u.wsq with queue := [], holdQueue := false, intent := .armOut }
                              spg := { u.spg with sections := Six.all (.closed .notRunning) } }
    t.replied f t.resumeReply =
      ({ takeFrame f s with psc := { s.psc with pass := some { p with suspension := none } }
                            odu := { s.odu with furthest := s.odu.rpc }
                            wsq := { s.wsq with queue := [], holdQueue := false, intent := .armOut }
                            spg := { s.spg with sections := Six.all (.closed .notRunning) } } : State).replied f (.passResume true none) := by
  have pass : (takeFrame f s).resumed.psc.pass = some { p with suspension := none } := by
    simp only [State.resumed, takeFrame_psc, hp]; rfl
  have mode : (takeFrame f s).resumed.mode = .pass := (takeFrame_mode ..).trans hm
  intro u t
  have reply : t.resumeReply = .passResume true none := by
    have running : t.running = true := running_of_pass (s := t) mode pass
    have cause : (t.psc.pass.bind fun p => p.suspension) = none := by rw [show t.psc.pass = _ from pass]; rfl
    rw [State.resumeReply, running, cause]
  rw [reply]
  refine congrArg (fun v : State => v.replied f (.passResume true none)) ?_
  simp only [t, u, State.resumed, takeFrame_psc, takeFrame_odu, takeFrame_wsq, takeFrame_spg, hp]
  rfl

/-- Settles O32: the tests in their turn; the hand-offs of the resume, by an invariant; the rebuild of an empty list. -/
theorem passResume : Obligations.PassResume := by
  intro tag p s hp hm hpass f ht u
  refine ⟨fun h => exec_passResume_refused hp hm hpass ht (.inl ⟨rfl, h⟩),
    fun n b => exec_passResume_refused hp hm hpass ht (.inr (.inl ⟨rfl, n, b⟩)),
    fun n b a => exec_passResume_refused hp hm hpass ht (.inr (.inr ⟨rfl, n, b, a⟩)), fun n b a => ?_⟩
  have exec := exec_passResume hp hm hpass ht n b a
  have um : u.mode = .pass := (takeFrame_mode ..).trans hm
  have up : u.psc.pass = some p := by rw [takeFrame_psc]; exact hpass
  constructor
  · have r := cascade_resumes um up
    have base := cascade_base [.rebuild, .prunerResume, .decide] u.resumed rfl
    generalize cascade [.rebuild, .prunerResume, .decide] u.resumed = t at exec r base
    refine ⟨_, exec, ?_, r.mode, ?_, r.runs⟩
    · exact (SameBase.trans (by constructor <;> rfl) base).replied ..
    · exact r.furthest.trans (by rw [takeFrame_odu])
  · intro w k t r adm arm sim
    rw [exec, cascade_resumed_idle (s := u.resumed) ((congrArg Ttr.trunks (takeFrame_ttr ..)).trans t)
      ((congrArg Prs.run (takeFrame_prs ..)).trans r) ((congrArg Stu.weederAdm (takeFrame_stu ..)).trans adm)
      (armIn_of_retracted ((congrArg Wsq.arm (takeFrame_wsq ..)).trans arm) ((congrArg Wsq.simArm (takeFrame_wsq ..)).trans sim))
      (resumed_selected up w) (resumed_selected up k), resumed_replied hm hpass]


end Sys2Proof.Machine

/-! PROOFS. PASS_CLOSE: every block's end-of-pass work, one after the other, in a mode in which nothing runs (R62, R73, R86, R90,
R104, R127, R149, R170). -/

namespace Sys2Proof.Machine

variable {s : State}

/-! ### The hand-offs outside a pass -/

/-- The hand-offs of the class that can follow a withdrawal or a rest where no pass is open. -/
def Work.atRest : Work → Bool
  | .clearWeeder _ | .immediate | .lift | .rebuild | .queueFull _ | .weederStop | .prunerStop | .sprayStop | .startRun _
  | .seek | .takeOff => false
  | .overflow full => !full
  | w => w.inner true

theorem Work.atRest_inner {w : Work} (h : w.atRest = true) : w.inner true = true := by
  cases w <;> first | exact h | rfl

/-- What leaves the class is handed on by the four kinds alone that do something only in a pass. -/
theorem Work.atRest_or {v w : Work} (i : v.inner true = true) (o : v.origin w = true) (k : w.atRest = true) :
    v.atRest = true ∨ w = .decide ∨ (∃ c, w = .suspend c) ∨ w = .consider ∨ w = .weederTrip := by
  cases v
  case overflow full =>
    cases full
    · exact .inl rfl
    · exact Bool.noConfusion o
  case clearWeeder | immediate | lift | rebuild | queueFull | weederStop | prunerStop | sprayStop | startRun | seek | takeOff =>
    right
    cases w <;> first | exact Bool.noConfusion o | exact Bool.noConfusion k | simp
  all_goals exact .inl i

/-- The weeder's end of a pass is done (R127). -/
structure WeederDone (w : Wsq) : Prop where
  queue : w.queue = []
  intent : w.intent = .armIn
  cleared : w.clearedTo = none
  fault : w.fault = false
  overflow : w.holdOverflow = false

/-- What rests from `s` to `t` where no pass is open, the sections CLOSED. -/
structure Rests (s t : State) : Prop where
  psc : t.psc = s.psc
  spg : t.spg = s.spg
  window : t.mpu.window = s.mpu.window
  weeder : WeederDone s.wsq → WeederDone t.wsq
  run : s.prs.run = none → t.prs.run = none
  fault : t.prs.fault = s.prs.fault

theorem Rests.refl (s : State) : Rests s s := ⟨rfl, rfl, rfl, id, id, rfl⟩

theorem Rests.trans {t u : State} (h : Rests s t) (k : Rests t u) : Rests s u where
  psc := k.psc.trans h.psc
  spg := k.spg.trans h.spg
  window := k.window.trans h.window
  weeder := k.weeder ∘ h.weeder
  run := k.run ∘ h.run
  fault := k.fault.trans h.fault

/-- No pass open in IDLE, every section CLOSED. -/
structure Idle (s : State) : Prop where
  mode : s.mode = .idle
  sections : s.spg.sections = Six.all (.closed .notRunning)

theorem Idle.of_rests {t : State} (h : Idle s) (r : Rests s t) : Idle t where
  mode := (congrArg Psc.mode r.psc).trans h.mode
  sections := (congrArg Spg.sections r.spg).trans h.sections

theorem not_inPass_of_idle (h : s.mode = .idle) : s.inPass = false := by
  simp [State.inPass, show s.psc.mode = .idle from h]

theorem atRest_works {w : Work} (m : s.mode = .idle) (k : w.atRest = true) : ∀ v ∈ (handle w s).2, v.atRest = true := by
  intro v hv
  have off := not_inPass (not_inPass_of_idle m)
  have i := inner_works (l := true) ⟨fun _ => by rw [m]; decide, fun e => nomatch e⟩ (Work.atRest_inner k) v hv
  rcases Work.atRest_or i (origin_of_mem hv) k with a | rfl | ⟨c, rfl⟩ | rfl | rfl
  · exact a
  · rw [handle_decide_off s (by simp [off.1])] at hv; cases hv
  · rw [handle_suspend_idle s c (not_inPass_of_idle m)] at hv; cases hv
  · rw [handle_consider_off s (by simp [off.1])] at hv; cases hv
  · simp [handle, wsqTrip, off.1] at hv

theorem WeederDone.dropDeferred {w : Wsq} (h : WeederDone w) : WeederDone w.dropDeferred :=
  ⟨by simp [Wsq.dropDeferred, h.queue], h.intent, h.cleared, h.fault, h.overflow⟩

/-- A weeder that is done with the pass stays so (R127). -/
theorem handle_weederDone {w : Work} (k : w.atRest = true) (h : WeederDone s.wsq) : WeederDone (handle w s).1.wsq := by
  cases hc : w.changesWsq with
  | false => rw [(handle_leaves w s).wsq hc]; exact h
  | true =>
    have same (v : Wsq) (e : v.queue = s.wsq.queue) (e2 : v.intent = s.wsq.intent) (e3 : v.clearedTo = s.wsq.clearedTo)
        (e4 : v.fault = s.wsq.fault) (e5 : v.holdOverflow = s.wsq.holdOverflow) : WeederDone v :=
      ⟨e.trans h.queue, e2.trans h.intent, e3.trans h.cleared, e4.trans h.fault, e5.trans h.overflow⟩
    cases w
    case drive =>
      simp only [handle, wsqDrive]
      repeat' split
      all_goals first | exact h | exact h.dropDeferred
    case answer r a =>
      cases r
      · cases a <;> simp only [handle, wsqAnswer]
        all_goals
          repeat' split
          all_goals first | exact h | exact h.dropDeferred
      · cases hc
    case arm st =>
      simp only [handle, wsqArm]
      repeat' split
      all_goals first | exact h | exact same _ rfl rfl rfl rfl rfl
    case overflow full =>
      cases full
      · simp [handle, wsqOverflow, h.overflow, h]
      · cases k
    all_goals first | exact Bool.noConfusion k | exact Bool.noConfusion hc

/-- Where no run is in progress none begins at rest (R139, R141). -/
theorem handle_run_atRest {w : Work} (k : w.atRest = true) (h : s.prs.run = none) : (handle w s).1.prs.run = none := by
  cases hc : w.changesRun with
  | false => rw [(handle_keeps w s).run hc]; exact h
  | true =>
    cases w
    case answer r a =>
      cases r
      · cases hc
      · cases a <;> simp [handle, prsAnswer, h]
    case enterPhase p => simp [handle, prsEnterPhase, h]
    case phaseEnd => simp [handle, prsPhaseEnd, h]
    case endRun o => simp [handle, prsEndRun, h]
    all_goals first | exact Bool.noConfusion k | exact Bool.noConfusion hc

theorem atRest_rests {w : Work} (i : Idle s) (k : w.atRest = true) : Rests s (handle w s).1 where
  psc := by
    by_cases n : ∃ c, w = .suspend c
    · obtain ⟨c, rfl⟩ := n
      rw [handle_suspend_idle s c (not_inPass_of_idle i.mode)]
    · exact inner_psc (Work.atRest_inner k) fun c e => n ⟨c, e⟩
  spg := by
    cases hc : w.changesSpg with
    | false => exact (handle_keeps w s).spg hc
    | true =>
      cases w
      case decide =>
        rw [handle_decide_off s (by simp [(not_inPass (not_inPass_of_idle i.mode)).1]), ← i.sections]
      all_goals first | exact Bool.noConfusion k | exact Bool.noConfusion hc
  window := (inner_map (Work.atRest_inner k)).window
  weeder := handle_weederDone k
  run := handle_run_atRest k
  fault := (handle_keeps w s).fault (by cases w <;> first | rfl | exact Bool.noConfusion k)

/-- The hand-offs at rest are carried out, and what waits behind them follows. -/
theorem run_atRest {n : Nat} {ws vs : List Work} (i : Idle s) (k : ∀ w ∈ ws, w.atRest = true)
    (o : (run n (ws ++ vs) s).overrun = false) : ∃ m u, Rests s u ∧ run n (ws ++ vs) s = run m vs u := by
  obtain ⟨m, u, ⟨r, -⟩, e⟩ := run_then (P := fun u ws => Rests s u ∧ ∀ w ∈ ws, w.atRest = true)
    (fun u w ws ⟨r, q⟩ => by
      obtain ⟨head, rest⟩ := List.forall_mem_cons.1 q
      have iu := i.of_rests r
      exact ⟨r.trans (atRest_rests iu head), fun v hv => (List.mem_append.1 hv).elim (atRest_works iu.mode head v) (rest v)⟩)
    n ws vs s ⟨.refl s, k⟩ o
  exact ⟨m, u, r, e⟩

/-! ### The blocks' ends of a pass -/

/-- A record is staged, and the arbiter begins what can begin: the log's own affair (R175, R177). -/
theorem run_stage {n : Nat} {r : SprayRecord} {vs : List Work} (o : (run n (.stage r :: vs) s).overrun = false) :
    ∃ m l, run n (.stage r :: vs) s = run m vs { s with lgs := l } := by
  have arbiter (u : State) : ∃ l, handle .arbiter u = ({ u with lgs := l }, []) := by
    simp only [handle, lgsArbiter]
    repeat' split
    all_goals exact ⟨_, rfl⟩
  obtain ⟨m, e⟩ := run_peel (n := n) (ws := vs) (show handle (.stage r) s = (_, [.arbiter]) from rfl) o
  rw [e] at o
  obtain ⟨l, el⟩ := arbiter (handle (.stage r) s).1
  obtain ⟨m', e'⟩ := run_peel (n := m) (ws := vs) el o
  exact ⟨m', l, e.trans e'⟩

/-- The open record closed: the record is gone, and a reservation with it (R167). -/
theorem run_closeRecord {n : Nat} {vs : List Work} (o : (run n (.closeRecord :: vs) s).overrun = false) : ∃ m l,
    run n (.closeRecord :: vs) s = run m vs
      { s with lgs := l, spg := { s.spg with openRec := none, reserved := s.spg.openRec.isNone && s.spg.reserved } } := by
  cases h : s.spg.openRec with
  | none =>
    have e : handle .closeRecord s = ({ s with spg := { s.spg with openRec := none, reserved := true && s.spg.reserved } }, []) := by
      simp only [handle, spgClose, h, Bool.true_and]
      rw [← h]
    obtain ⟨m, e'⟩ := run_peel (ws := vs) e o
    exact ⟨m, s.lgs, e'⟩
  | some r =>
    have e : handle .closeRecord s = ({ s with spg := { s.spg with openRec := none, reserved := false } },
        if s.spg.reserved then [.stage (s.closed r)] else []) := by
      simp only [handle, spgClose, h]
    obtain ⟨m, e'⟩ := run_peel (ws := vs) e o
    cases hr : s.spg.reserved with
    | false =>
      rw [hr] at e'
      exact ⟨m, s.lgs, e'⟩
    | true =>
      rw [e', hr] at o
      obtain ⟨m', l, e''⟩ := run_stage o
      rw [hr] at e'
      exact ⟨m', l, e'.trans e''⟩

theorem handle_weederEnd : ∃ w ws, WeederDone w ∧ (∀ v ∈ ws, v.atRest = true) ∧
    handle .weederEnd s = ({ s with wsq := w }, ws) := by
  refine ⟨(wsqEnd s).1.wsq, (wsqEnd s).2, ⟨rfl, rfl, rfl, rfl, rfl⟩, List.all_eq_true.1 ?_, rfl⟩
  simp only [wsqEnd]
  repeat' (first | rfl | split)

theorem handle_prunerEnd : ∃ p ws, p.run = none ∧ p.fault = false ∧ (∀ v ∈ ws, v.atRest = true) ∧
    handle (.prunerEnd false) s = ({ s with prs := p }, ws) := by
  refine ⟨(prsEnd false s).1.prs, (prsEnd false s).2, rfl, rfl, List.all_eq_true.1 ?_, rfl⟩
  simp only [prsEnd, Bool.false_eq_true, ↓reduceIte]
  repeat' (first | rfl | split)

/-! ### The end of the pass -/

/-- What every block's end of a pass leaves, from the state `s` of a pass `p` that is no longer open. -/
structure PassEnded (p : PassRecord) (s t : State) : Prop where
  psc : t.psc.pass = none ∧ t.psc.lastPass = some ⟨p, .closed⟩
  trunks : t.ttr.trunks = [] ∧ t.ttr.overflowed = false
  weeder : WeederDone t.wsq
  pruner : t.prs.run = none ∧ t.prs.fault = false
  openRec : t.spg.openRec = none
  reserved : s.spg.openRec ≠ none → t.spg.reserved = false
  tank : t.spg.tank = s.spg.tank
  sections : t.spg.sections = Six.all (.closed .notRunning)
  resolutions : ∀ n, (t.mpu.cursor n).res = .none
  window : t.mpu.window = s.mpu.window.map fun b => { b with confirmed := ToolSet.empty }

def closeWorks : List Work := [.decide, .closeRecord, .weederEnd, .prunerEnd false, .trunksEnd, .mapEnd, .passEnd .closed]

/-- The spray section's end of a pass (R167, R170). -/
structure SprayEnded (s t : State) : Prop where
  idle : Idle t
  psc : t.psc = s.psc
  window : t.mpu.window = s.mpu.window
  openRec : t.spg.openRec = none
  reserved : s.spg.openRec ≠ none → t.spg.reserved = false
  tank : t.spg.tank = s.spg.tank

theorem SprayEnded.of_rests {t u : State} (h : SprayEnded s t) (r : Rests t u) : SprayEnded s u where
  idle := h.idle.of_rests r
  psc := r.psc.trans h.psc
  window := r.window.trans h.window
  openRec := by rw [r.spg]; exact h.openRec
  reserved n := by rw [r.spg]; exact h.reserved n
  tank := by rw [r.spg]; exact h.tank

theorem run_sprayEnds {n : Nat} {vs : List Work} (i : s.mode = .idle) (o : (run n (.decide :: .closeRecord :: vs) s).overrun = false) :
    ∃ m t, SprayEnded s t ∧ run n (.decide :: .closeRecord :: vs) s = run m vs t := by
  have decided : handle .decide s = _ := handle_decide_off s (by simp [(not_inPass (not_inPass_of_idle i)).1])
  obtain ⟨m, e⟩ : ∃ m, run n (.decide :: .closeRecord :: vs) s = run m (.closeRecord :: vs) _ := run_peel decided o
  rw [e] at o
  obtain ⟨m', l, e'⟩ := run_closeRecord o
  refine ⟨m', _, ?_, e.trans e'⟩
  exact { idle := ⟨i, rfl⟩, psc := rfl, window := rfl, openRec := rfl, tank := rfl
          reserved := fun h => by
            show (s.spg.openRec.isNone && s.spg.reserved) = false
            rw [Option.isNone_eq_false_iff.2 (Option.isSome_iff_ne_none.2 h)]
            rfl }

theorem run_weederEnds {n : Nat} {vs : List Work} (i : Idle s) (o : (run n (.weederEnd :: vs) s).overrun = false) :
    ∃ m w t, Rests { s with wsq := w } t ∧ WeederDone t.wsq ∧ run n (.weederEnd :: vs) s = run m vs t := by
  obtain ⟨w, ws, done, rest, e⟩ := handle_weederEnd (s := s)
  obtain ⟨m, e'⟩ := run_peel (ws := vs) e o
  rw [e'] at o
  obtain ⟨m', t, r, e''⟩ := run_atRest (s := { s with wsq := w }) ⟨i.mode, i.sections⟩ rest o
  exact ⟨m', w, t, r, r.weeder done, e'.trans e''⟩

theorem run_prunerEnds {n : Nat} {vs : List Work} (i : Idle s) (o : (run n (.prunerEnd false :: vs) s).overrun = false) :
    ∃ m p t, Rests { s with prs := p } t ∧ t.prs.run = none ∧ t.prs.fault = false ∧
      run n (.prunerEnd false :: vs) s = run m vs t := by
  obtain ⟨p, ws, run, fault, rest, e⟩ := handle_prunerEnd (s := s)
  obtain ⟨m, e'⟩ := run_peel (ws := vs) e o
  rw [e'] at o
  obtain ⟨m', t, r, e''⟩ := run_atRest (s := { s with prs := p }) ⟨i.mode, i.sections⟩ rest o
  exact ⟨m', p, t, r, r.run run, r.fault.trans fault, e'.trans e''⟩

/-- The trunk list, the map and the pass record as they end (R62, R86, R90). -/
def State.passOver (s : State) (p : PassRecord) : State :=
  { s with ttr := { s.ttr with trunks := [], overflowed := false }, mpu := (mpuEnd s).1.mpu
           psc := { s.psc with pass := none, lastPass := some ⟨p, .closed⟩ } }

/-- The trunk list, the map and the pass record end one after the other, and nothing follows. -/
theorem run_ends {n : Nat} {p : PassRecord} (h : s.psc.pass = some p)
    (o : (run n [.trunksEnd, .mapEnd, .passEnd .closed] s).overrun = false) :
    run n [.trunksEnd, .mapEnd, .passEnd .closed] s = s.passOver p := by
  have last (u : State) (hu : u.psc.pass = some p) :
      handle (.passEnd .closed) u = ({ u with psc := { u.psc with pass := none, lastPass := some ⟨p, .closed⟩ } }, []) := by
    simp only [handle, pscEnd, hu]
  match n with
  | 0 | 1 | 2 => cases o
  | n + 3 =>
    refine Eq.trans ?_ (run_nil n _)
    exact (run_leaf (w := .trunksEnd) rfl).trans ((run_leaf (w := .mapEnd) rfl).trans (run_leaf (last (handle .mapEnd _).1 h)))

theorem cascade_closes {p : PassRecord} (m : s.mode = .idle) (h : s.psc.pass = some p)
    (o : (cascade closeWorks s).overrun = false) : PassEnded p s (cascade closeWorks s) := by
  obtain ⟨n1, t1, a1, e1⟩ := run_sprayEnds (n := Config.handOffBound)
    (vs := [.weederEnd, .prunerEnd false, .trunksEnd, .mapEnd, .passEnd .closed]) m o
  have e : cascade closeWorks s = _ := e1
  rw [e] at o ⊢
  obtain ⟨n2, w, t2, r2, weeder, e2⟩ := run_weederEnds a1.idle o
  rw [e2] at o ⊢
  have a2 : SprayEnded s t2 := SprayEnded.of_rests (t := { t1 with wsq := w }) ⟨⟨a1.idle.mode, a1.idle.sections⟩, a1.psc, a1.window,
    a1.openRec, a1.reserved, a1.tank⟩ r2
  obtain ⟨n3, q, t3, r3, run, fault, e3⟩ := run_prunerEnds a2.idle o
  rw [e3] at o ⊢
  have a3 : SprayEnded s t3 := SprayEnded.of_rests (t := { t2 with prs := q }) ⟨⟨a2.idle.mode, a2.idle.sections⟩, a2.psc, a2.window,
    a2.openRec, a2.reserved, a2.tank⟩ r3
  rw [run_ends (by rw [a3.psc]; exact h) o]
  exact { psc := ⟨rfl, rfl⟩, trunks := ⟨rfl, rfl⟩, weeder := r3.weeder weeder, pruner := ⟨run, fault⟩, openRec := a3.openRec
          reserved := a3.reserved, tank := a3.tank, sections := a3.idle.sections
          resolutions := fun n => by rcases n with _ | n <;> [rfl; (cases n <;> rfl)]
          window := by rw [← a3.window]; rfl }

/-! ### Overrun or not -/

/-- The hand-offs of an end of a pass. -/
def Work.closes : Work → Bool
  | .closeRecord | .stage _ | .arbiter | .weederEnd | .prunerEnd false | .trunksEnd | .mapEnd | .passEnd _ => true
  | w => w.atRest

theorem Work.atRest_closes {w : Work} (h : w.atRest = true) : w.closes = true := by
  cases w <;> first | exact h | rfl | exact Bool.noConfusion h

theorem closes_works {w : Work} (m : s.mode = .idle) (k : w.closes = true) : ∀ v ∈ (handle w s).2, v.closes = true := by
  by_cases r : w.atRest = true
  · exact fun v hv => Work.atRest_closes (atRest_works m r v hv)
  · cases w
    case weederEnd =>
      obtain ⟨w, ws, -, rest, e⟩ := handle_weederEnd (s := s)
      rw [e]
      exact fun v hv => Work.atRest_closes (rest v hv)
    case prunerEnd dropped =>
      cases dropped
      · obtain ⟨p, ws, -, -, rest, e⟩ := handle_prunerEnd (s := s)
        rw [e]
        exact fun v hv => Work.atRest_closes (rest v hv)
      · cases k
    case closeRecord | stage | arbiter | trunksEnd | mapEnd | passEnd =>
      refine List.all_eq_true.1 ?_
      simp only [handle, spgClose, lgsStage, lgsArbiter, ttrEnd, mpuEnd, pscEnd]
      repeat' (first | rfl | split)
    all_goals exact absurd k r

theorem closes_keeps {w : Work} (k : w.closes = true) : (handle w s).1.mode = s.mode ∧ (handle w s).1.odu = s.odu := by
  by_cases r : w.atRest = true
  · exact ⟨inner_mode (Work.atRest_inner r), inner_odu (Work.atRest_inner r)⟩
  · refine ⟨?_, (handle_keeps w s).odu (by cases w <;> first | rfl | exact Bool.noConfusion k)⟩
    cases w
    case passEnd => simp only [handle, pscEnd]; split <;> rfl
    case closeRecord | stage | arbiter | weederEnd | prunerEnd | trunksEnd | mapEnd =>
      exact congrArg Psc.mode ((handle_leaves _ s).psc rfl)
    all_goals exact absurd k r

theorem closes_base {w : Work} (k : w.closes = true) : plain [w] = true := by
  cases w <;> first | rfl | exact Bool.noConfusion k

/-- Also where hand-offs are left over, the mode is IDLE and the position stays. -/
theorem cascade_closes_keeps (m : s.mode = .idle) : (cascade closeWorks s).mode = .idle ∧ (cascade closeWorks s).odu = s.odu :=
  run_within (P := fun u => u.mode = .idle ∧ u.odu = s.odu) (W := fun w => w.closes = true)
    (fun w u k ⟨hm, ho⟩ => ⟨(closes_keeps k).1.trans hm, (closes_keeps k).2.trans ho⟩) (fun w u k ⟨hm, _⟩ => closes_works hm k)
    (fun u q => q) Config.handOffBound closeWorks s (by decide) ⟨m, rfl⟩

/-! ### The command -/

/-- The mode left, every block's work still to come (R104). -/
def State.closing (s : State) : State := { s with psc := { s.psc with mode := .idle } }

def State.closeReply (s : State) : OkResult := .passClose s.psc.lastPass s.ttr.counter s.odu.rpc

theorem exec_passClose {tag : Byte} (hp : s.powered = true) (hm : s.mode = .pass) (ht : s.takes ⟨0x33#8, tag, []⟩ = true) :
    exec (.passClose tag []) s = .next ((cascade closeWorks (takeFrame ⟨0x33#8, tag, []⟩ s).closing).replied ⟨0x33#8, tag, []⟩
      (cascade closeWorks (takeFrame ⟨0x33#8, tag, []⟩ s).closing).closeReply) :=
  command_ok (kind := 0x33) (a := (State.closing _, closeWorks, State.closeReply)) hp ht
    ((takeFrame_inPass _ _).trans (inPass_iff.2 hm)) rfl rfl

theorem reply_mem_tx (f : Frame) (r : OkResult) : TxItem.ok f.kind f.tag r 0 ∈ (s.replied f r).mlk.tx := by
  simp [State.replied, State.send]

/-- Settles O33: the blocks' ends one after the other, what follows each of them at rest. -/
theorem passClosing : Obligations.PassClosing := by
  intro tag p s hp hm hpass ht
  have exec := exec_passClose hp hm ht
  have base := cascade_base closeWorks (takeFrame ⟨0x33#8, tag, []⟩ s).closing rfl
  have keeps := cascade_closes_keeps (s := (takeFrame ⟨0x33#8, tag, []⟩ s).closing) rfl
  have ended := cascade_closes (s := (takeFrame ⟨0x33#8, tag, []⟩ s).closing) (p := p) rfl
    ((congrArg Psc.pass (takeFrame_psc ..)).trans hpass)
  generalize cascade closeWorks (takeFrame ⟨0x33#8, tag, []⟩ s).closing = t at exec base keeps ended
  refine ⟨_, exec, (SameBase.trans (by constructor <;> rfl) base).replied .., keeps.1, ?_, fun o => ?_⟩
  · exact (congrArg Odu.furthest keeps.2).trans (congrArg Odu.furthest (takeFrame_odu ..))
  · obtain ⟨psc, trunks, weeder, pruner, openRec, reserved, tank, sections, resolutions, window⟩ := ended o
    have spg : (takeFrame ⟨0x33#8, tag, []⟩ s).closing.spg = s.spg := takeFrame_spg ..
    have mpu : (takeFrame ⟨0x33#8, tag, []⟩ s).closing.mpu = s.mpu := takeFrame_mpu ..
    have reply : t.closeReply = .passClose (some ⟨p, .closed⟩) s.ttr.counter s.odu.rpc := by
      have counter : t.ttr.counter = s.ttr.counter := base.counter.trans (congrArg Ttr.counter (takeFrame_ttr ..))
      have rpc : t.odu.rpc = s.odu.rpc := (congrArg Odu.rpc keeps.2).trans (congrArg Odu.rpc (takeFrame_odu ..))
      rw [State.closeReply, psc.2, counter, rpc]
    rw [spg] at reserved tank
    rw [mpu] at window
    exact ⟨psc.1, psc.2, trunks.1, trunks.2, weeder.queue, weeder.intent, weeder.cleared, weeder.fault, pruner.1, pruner.2, openRec,
      reserved, tank, sections, resolutions, window, reply ▸ reply_mem_tx ⟨0x33#8, tag, []⟩ t.closeReply⟩

end Sys2Proof.Machine

/-! PROOFS. The run's timers: MOVE, the next step, and the ends of a run (R57, R135, R139 to R146). -/

namespace Sys2Proof.Machine

variable {s : State}

/-! ### Claims and outcomes under the hand-offs of a pass -/

/-- A trunk record with its weeder claim cleared or not. -/
def Trunk.weederCleared (k : Nat) (x : Trunk) : Trunk := if x.number == k then { x with weederClaim := false } else x

/-- A trunk record with an outcome set or not (R140). -/
def Trunk.decided (k : Nat) (o : Outcome) (x : Trunk) : Trunk :=
  if x.number == k then { x with prunerClaim := false, outcome := some o } else x

theorem handle_clearWeeder_trunks (k : Nat) : (handle (.clearWeeder k) s).1.ttr.trunks = s.ttr.trunks.map (Trunk.weederCleared k) := rfl

theorem handle_purge_trunks : (handle .purge s).1.ttr.trunks = s.ttr.trunks.filter Trunk.claimed := by
  simp only [handle, ttrPurge]
  split
  · next h => exact (List.filter_eq_self.2 (List.length_filter_eq_length_iff.1 h)).symm
  · split <;> rfl

theorem handle_outcome_trunks (k : Nat) (o : Outcome) :
    (handle (.outcome k o) s).1.ttr.trunks = if (s.ttr.find k).any fun x => x.prunerClaim then s.ttr.trunks.map (Trunk.decided k o)
      else s.ttr.trunks := by
  simp only [handle, prsOutcome]
  cases h : s.ttr.find k with
  | none => rfl
  | some t => cases c : t.prunerClaim <;> simp [Option.filter, c, Ttr.mapTrunk, Trunk.decided]

/-- The trunk list changes by a claim cleared, an outcome or a purge alone. -/
theorem inner_trunks {l : Bool} {w : Work} (k : w.inner l = true) : (handle w s).1.ttr.trunks = s.ttr.trunks ∨
    (∃ n, w = .clearWeeder n) ∨ w = .purge ∨ ∃ n o, w = .outcome n o := by
  cases hc : w.changesTtr with
  | false => exact .inl (congrArg Ttr.trunks ((handle_keeps w s).ttr hc))
  | true =>
    cases w <;> first | exact Bool.noConfusion hc | exact Bool.noConfusion k | simp

/-- A property of the records that clearing a weeder claim and an outcome keep is kept by the class. -/
theorem inner_forall_trunks {l : Bool} {w : Work} {P : Trunk → Prop} (k : w.inner l = true) (h : ∀ x ∈ s.ttr.trunks, P x)
    (c : ∀ n x, P x → P (x.weederCleared n)) (d : ∀ n o x, w = .outcome n o → (s.ttr.find n).any (fun x => x.prunerClaim) = true →
      P x → P (x.decided n o)) : ∀ x ∈ (handle w s).1.ttr.trunks, P x := by
  rcases inner_trunks (s := s) k with e | ⟨n, rfl⟩ | rfl | ⟨n, o, rfl⟩
  · rw [e]; exact h
  · rw [handle_clearWeeder_trunks]
    exact List.forall_mem_map.2 fun x hx => c n x (h x hx)
  · rw [handle_purge_trunks]
    exact fun x hx => h x (List.mem_of_mem_filter hx)
  · rw [handle_outcome_trunks]
    split
    · next a => exact List.forall_mem_map.2 fun x hx => d n o x rfl a (h x hx)
    · exact h

theorem weederCleared_same (k : Nat) (x : Trunk) : (x.weederCleared k).number = x.number ∧
    (x.weederCleared k).prunerClaim = x.prunerClaim ∧ (x.weederCleared k).outcome = x.outcome := by
  unfold Trunk.weederCleared
  split <;> exact ⟨rfl, rfl, rfl⟩

theorem decided_number (k : Nat) (o : Outcome) (x : Trunk) : (x.decided k o).number = x.number := by
  unfold Trunk.decided
  split <;> rfl

/-- The numbers of the list fall out, and change in no other way. -/
theorem inner_numbers {l : Bool} {w : Work} (k : w.inner l = true) :
    ((handle w s).1.ttr.trunks.map fun x => x.number).Sublist (s.ttr.trunks.map fun x => x.number) := by
  rcases inner_trunks (s := s) k with e | ⟨n, rfl⟩ | rfl | ⟨n, o, rfl⟩
  · rw [e]
  · rw [handle_clearWeeder_trunks, List.map_map]
    exact (List.map_congr_left fun x _ => (weederCleared_same n x).1).symm ▸ List.Sublist.refl _
  · rw [handle_purge_trunks]
    exact List.Sublist.map _ List.filter_sublist
  · rw [handle_outcome_trunks]
    split
    · rw [List.map_map]
      exact (List.map_congr_left fun x _ => decided_number n o x).symm ▸ List.Sublist.refl _
    · exact List.Sublist.refl _

/-! ### Without a run -/

/-- The hand-offs of the class in a state without a run: those that lead to a candidate only once the pass does not run. -/
def Work.noRun (l running : Bool) : Work → Bool
  | .startRun _ | .enterPhase _ | .phaseEnd | .endRun _ | .haltDone | .skipAll => false
  | .rest | .issue _ | .headDone | .consider | .prunerStop => !running
  | w => w.inner l

theorem Work.noRun_inner {l r : Bool} {w : Work} (h : w.noRun l r = true) : w.inner l = true := by
  cases w <;> first | exact h | rfl

theorem Work.noRun_stopped {l r : Bool} {w : Work} (h : w.noRun l r = true) : w.noRun l false = true := by
  cases w <;> first | exact h | rfl

theorem noRun_kept {l : Bool} {v w : Work} (h : v.noRun l s.running = true) : v.noRun l (handle w s).1.running = true := by
  cases r : s.running with
  | false => rw [(handle_opensNothing w s).running r, ← r]; exact h
  | true =>
    rw [r] at h
    cases (handle w s).1.running with
    | true => exact h
    | false => exact Work.noRun_stopped h

theorem noRun_works {l : Bool} {w : Work} (st : Settled l s) (run : s.prs.run = none) (k : w.noRun l s.running = true) :
    ∀ v ∈ (handle w s).2, v.noRun l (handle w s).1.running = true ∧ ∀ n o, v ≠ .outcome n o := by
  intro v hv
  have i := inner_works st (Work.noRun_inner k) v hv
  have o := origin_of_mem hv
  have stays (h : s.running = false) : (!(handle w s).1.running) = true := by rw [(handle_opensNothing w s).running h]; rfl
  have off (h : (!s.running) = true) : s.running = false := by simpa using h
  cases v
  case rest =>
    refine ⟨?_, by simp⟩
    cases w
    case prunerTrip =>
      refine stays ?_
      cases r : s.running with
      | false => rfl
      | true => simp [handle, prsTrip, r] at hv
    case prunerStop => exact stays (off k)
    all_goals first | exact Bool.noConfusion k | exact Bool.noConfusion o
  case issue p =>
    refine ⟨?_, by simp⟩
    cases w
    case rest => exact stays (off k)
    case answer r a =>
      cases r <;> cases a <;> first | exact Bool.noConfusion o | skip
      simp [handle, prsAnswer, run] at hv
    case startEnd => 
      exact stays (not_inPass (st.noPass (by simpa [Work.noRun, Work.inner] using k))).1
    all_goals first | exact Bool.noConfusion k | exact Bool.noConfusion o
  case headDone =>
    refine ⟨?_, by simp⟩
    cases w
    case issue => exact stays (off k)
    all_goals first | exact Bool.noConfusion k | exact Bool.noConfusion o
  case consider =>
    refine ⟨?_, by simp⟩
    cases w
    case issue => exact stays (off k)
    case headDone => exact stays (off k)
    case consider => exact stays (off k)
    all_goals first | exact Bool.noConfusion k | exact Bool.noConfusion o
  case prunerStop =>
    refine ⟨?_, by simp⟩
    cases w
    case suspend c => rw [(handle_suspend_stops c).1]; rfl
    all_goals first | exact Bool.noConfusion k | exact Bool.noConfusion o
  case startRun | outcome =>
    cases w
    case consider =>
      rw [handle_consider_off s (by simp [off k])] at hv
      cases hv
    all_goals first | exact Bool.noConfusion k | exact Bool.noConfusion o
  case phaseEnd =>
    cases w
    case headDone => simp [handle, prsHeadDone, run] at hv
    all_goals first | exact Bool.noConfusion k | exact Bool.noConfusion o
  case endRun =>
    cases w
    case prunerStop => simp [handle, prsStop, run] at hv
    all_goals first | exact Bool.noConfusion k | exact Bool.noConfusion o
  case enterPhase | haltDone | skipAll =>
    cases w <;> first | exact Bool.noConfusion k | exact Bool.noConfusion o
  all_goals exact ⟨i, by simp⟩

theorem noRun_run {l r : Bool} {w : Work} (run : s.prs.run = none) (k : w.noRun l r = true) : (handle w s).1.prs.run = none := by
  cases hc : w.changesRun with
  | false => rw [(handle_keeps w s).run hc]; exact run
  | true =>
    cases w
    case answer r a =>
      cases r
      · cases hc
      · cases a <;> simp [handle, prsAnswer, run]
    case prunerStop => simp [handle, prsStop, run]
    all_goals first | exact Bool.noConfusion k | exact Bool.noConfusion hc

/-- A state without a run, with the hand-offs that wait and bring none about. -/
structure NoRun (l : Bool) (s : State) (ws : List Work) : Prop where
  settled : Settled l s
  run : s.prs.run = none
  works : ∀ w ∈ ws, w.noRun l s.running = true

theorem NoRun.head {l : Bool} {w : Work} {ws : List Work} (h : NoRun l s (w :: ws)) : w.noRun l s.running = true :=
  h.works w (List.mem_cons_self ..)

theorem NoRun.step {l : Bool} {w : Work} {ws : List Work} (h : NoRun l s (w :: ws)) :
    NoRun l (handle w s).1 ((handle w s).2 ++ ws) where
  settled := h.settled.handle
  run := noRun_run h.run h.head
  works v hv := (List.mem_append.1 hv).elim (fun m => (noRun_works h.settled h.run h.head v m).1)
    fun m => noRun_kept (h.works v (List.mem_cons_of_mem _ m))

/-! ### The claim that stands until its outcome -/

/-- The trunk's record holds its pruner claim. -/
def State.claims (s : State) (n : Nat) : Prop := ((s.ttr.find n).any fun x => x.prunerClaim) = true

theorem claims_iff {n : Nat} : s.claims n ↔ ∃ x, s.ttr.find n = some x ∧ x.prunerClaim = true := by
  simp [State.claims, Option.any_eq_true]

theorem find_filter_claimed {t : Ttr} {n : Nat} {x : Trunk} (h : t.find n = some x) (c : x.claimed = true) :
    (t.trunks.filter Trunk.claimed).find? (fun r => r.number == n) = some x := by
  obtain ⟨hn, before, after, e, none⟩ := List.find?_eq_some_iff_append.1 h
  rw [List.find?_filter, List.find?_eq_some_iff_append]
  exact ⟨by simp [c, hn], before, after, e, fun a ha => by simp [by simpa using none a ha]⟩

theorem claims_kept {l : Bool} {w : Work} {n : Nat} (k : w.inner l = true) (no : ∀ n o, w ≠ .outcome n o) (h : s.claims n) :
    (handle w s).1.claims n := by
  obtain ⟨x, hx, c⟩ := claims_iff.1 h
  rcases inner_trunks (s := s) k with e | ⟨m, rfl⟩ | rfl | ⟨m, o, rfl⟩
  · exact claims_iff.2 ⟨x, by simpa [Ttr.find, e] using hx, c⟩
  · refine claims_iff.2 ⟨x.weederCleared m, ?_, by rw [(weederCleared_same m x).2.1]; exact c⟩
    have same : ((fun r : Trunk => r.number == n) ∘ Trunk.weederCleared m) = fun r => r.number == n := by
      funext r
      simp [(weederCleared_same m r).1]
    rw [Ttr.find, handle_clearWeeder_trunks, List.find?_map, same]
    exact congrArg (Option.map _) hx
  · refine claims_iff.2 ⟨x, ?_, c⟩
    rw [Ttr.find, handle_purge_trunks]
    exact find_filter_claimed hx (by simp [Trunk.claimed, c])
  · exact absurd rfl (no m o)

/-! ### The outcome and what follows it -/

/-- The count of an outcome (R140). -/
def Counts.of (c : Counts) : Outcome → Nat
  | .pruned => c.pruned
  | .missed => c.missed
  | .abandoned => c.abandoned
  | .blocked => c.blocked
  | .skipped => c.skipped

theorem bump_ge {top n : Nat} : n ≤ bump top n := by
  unfold bump
  split <;> omega

theorem Counts.of_add_same (c : Counts) (o : Outcome) : (c.add o).of o = bump 65535 (c.of o) := by
  cases o <;> rfl

theorem Counts.of_add_ge (c : Counts) (o k : Outcome) : c.of k ≤ (c.add o).of k := by
  cases o <;> cases k <;> first | exact bump_ge | exact le_rfl

theorem inner_counts {l : Bool} {w : Work} (k : w.inner l = true) (o : Outcome) :
    s.prs.counts.of o ≤ (handle w s).1.prs.counts.of o := by
  cases hc : w.changesCounts with
  | false => rw [(handle_keeps w s).counts hc]
  | true =>
    cases w
    case outcome n p =>
      simp only [handle, prsOutcome]
      split
      · exact le_rfl
      · exact Counts.of_add_ge ..
    all_goals first | exact Bool.noConfusion k | exact Bool.noConfusion hc

/-- The records of a trunk hold no pruner claim, and the outcome. -/
def State.decidedOn (s : State) (n : Nat) (o : Outcome) : Prop :=
  ∀ x ∈ s.ttr.trunks, x.number = n → x.prunerClaim = false ∧ x.outcome = some o

theorem decidedOn_kept {l : Bool} {w : Work} {n : Nat} {o : Outcome} (k : w.inner l = true) (h : s.decidedOn n o) :
    (handle w s).1.decidedOn n o := by
  refine inner_forall_trunks k h (fun m x hx e => ?_) fun m p x _ a hx e => ?_
  · obtain ⟨hn, hc, ho⟩ := weederCleared_same m x
    rw [hc, ho]
    exact hx (hn ▸ e)
  · rw [decided_number] at e
    obtain ⟨y, hy, c⟩ := claims_iff.1 (show s.claims m from a)
    have ym : y.number = m := by simpa using List.find?_some hy
    have other : ¬ x.number = m := fun xm => by
      rw [(h y (List.mem_of_find?_eq_some hy) (ym.trans (xm.symm.trans e))).1] at c
      cases c
    rw [Trunk.decided, if_neg (by simpa using other)]
    exact hx e

/-- Of a run in progress the trunk stays the same; another begins with its start (R141). -/
theorem inner_run_trunk {l : Bool} {w : Work} (k : w.inner l = true) {r : Run} (h : (handle w s).1.prs.run = some r) :
    (∃ q, s.prs.run = some q ∧ r.trunk = q.trunk) ∨ w = .startRun r.trunk := by
  cases hc : w.changesRun with
  | false => exact .inl ⟨r, (handle_keeps w s).run hc ▸ h, rfl⟩
  | true =>
    cases hr : s.prs.run with
    | none =>
      right
      cases w
      case startRun n =>
        simp only [handle, prsStartRun, hr, State.setRun, Option.isSome_none, Bool.false_eq_true, ↓reduceIte, Option.some.injEq] at h
        rw [← h]
      case answer q a =>
        cases q
        · cases hc
        · cases a <;> simp [handle, prsAnswer, hr] at h
      case enterPhase => simp [handle, prsEnterPhase, hr] at h
      case phaseEnd => simp [handle, prsPhaseEnd, hr] at h
      case endRun => simp [handle, prsEndRun, hr] at h
      case prunerStop => simp [handle, prsStop, hr] at h
      all_goals first | exact Bool.noConfusion k | exact Bool.noConfusion hc
    | some q =>
      refine .inl ⟨q, rfl, ?_⟩
      revert h
      cases w
      case answer q a =>
        cases q
        · cases hc
        · cases a <;> simp only [handle, prsAnswer, hr]
          all_goals
            repeat' split
            all_goals
              simp only [State.setRun, hr, Option.some.injEq]
              rintro rfl
              rfl
      case startRun n =>
        simp only [handle, prsStartRun, hr, Option.isSome_some, ↓reduceIte, Option.some.injEq]
        rintro rfl
        rfl
      case enterPhase p =>
        cases st : s.prs.step q with
        | none =>
          simp only [handle, prsEnterPhase, hr, st, Option.bind_some, Option.some.injEq]
          rintro rfl
          rfl
        | some st' =>
          cases p <;> simp only [handle, prsEnterPhase, hr, st, Option.bind_some]
          all_goals
            repeat' split
            all_goals
              simp only [State.setRun, Option.some.injEq]
              rintro rfl
              rfl
      case phaseEnd | endRun | prunerStop =>
        simp only [handle, prsPhaseEnd, prsEndRun, prsStop, hr]
        repeat' split
        all_goals simp [State.setRun, hr] <;> rintro rfl <;> rfl
      all_goals first | exact Bool.noConfusion k | exact Bool.noConfusion hc

/-- After the outcome of a trunk: its records, its count, and no run of it to come. -/
structure Ended (l : Bool) (n : Nat) (o : Outcome) (c : Nat) (s : State) (ws : List Work) : Prop where
  inner : Inner l s ws
  decided : s.decidedOn n o
  count : c ≤ s.prs.counts.of o
  run : ∀ r, s.prs.run = some r → r.trunk ≠ n
  starts : Work.startRun n ∉ ws

theorem candidate_claims {t : Ttr} {x : Trunk} (h : t.candidate = some x) : x ∈ t.trunks ∧ x.prunerClaim = true :=
  ⟨List.mem_of_find?_eq_some h, List.find?_some h⟩

/-- The candidate is considered: a run starts at it, or none does (R139). -/
theorem consider_starts {n : Nat} (h : Work.startRun n ∈ (handle .consider s).2) : ∃ x ∈ s.ttr.trunks, x.number = n ∧ x.prunerClaim = true := by
  simp only [handle, prsConsider] at h
  split at h
  · next t _ hc =>
    obtain ⟨mem, c⟩ := candidate_claims hc
    refine ⟨t, mem, ?_, c⟩
    repeat' split at h
    all_goals simp at h <;> exact h.symm
  · cases h

theorem Ended.step {l : Bool} {n c : Nat} {o : Outcome} {w : Work} {ws : List Work} (h : Ended l n o c s (w :: ws)) :
    Ended l n o c (handle w s).1 ((handle w s).2 ++ ws) where
  inner := h.inner.step
  decided := decidedOn_kept h.inner.head h.decided
  count := h.count.trans (inner_counts h.inner.head o)
  run r hr := by
    rcases inner_run_trunk h.inner.head hr with ⟨q, hq, e⟩ | e
    · rw [e]; exact h.run q hq
    · exact fun en => h.starts (List.mem_cons.2 (.inl (by rw [e, en])))
  starts m := by
    rcases List.mem_append.1 m with m | m
    · have org := origin_of_mem m
      have k := h.inner.head
      cases w
      case consider =>
        obtain ⟨x, hx, e, c⟩ := consider_starts m
        rw [(h.decided x hx e).1] at c
        cases c
      all_goals first | exact Bool.noConfusion k | exact Bool.noConfusion org
    · exact h.starts (List.mem_cons_of_mem _ m)

/-! ### A run that ends -/

/-- The run `r` gone, its record withdrawn and its outcome set (R134, R140). -/
structure RunEnded (l : Bool) (r : Run) (o : Outcome) (s t : State) : Prop where
  quiet : NoRun l t []
  decided : t.decidedOn r.trunk o
  count : bump 65535 (s.prs.counts.of o) ≤ t.prs.counts.of o
  numbers : (t.ttr.trunks.map fun x => x.number).Sublist (s.ttr.trunks.map fun x => x.number)

/-- What the end of a run hands on behind the withdrawal and the outcome (R134, R137, R140, R146). -/
def State.afterRun (s : State) (r : Run) (o : Outcome) : List Work :=
  (if r.halting then [.haltDone] else []) ++ (if s.prs.program.any fun g => g.mode == .once then [.skipAll] else []) ++
    (if o == .abandoned || o == .blocked then [.rest] else []) ++ [.consider]

theorem handle_endRun {r : Run} (o : Outcome) (h : s.prs.run = some r) : ∃ u, u.prs.run = none ∧ u.prs.counts = s.prs.counts ∧
    u.ttr = s.ttr ∧ handle (.endRun o) s = (u, .withdraw .pruner :: .outcome r.trunk o :: s.afterRun r o) := by
  simp only [handle, prsEndRun, h, State.afterRun, List.append_assoc]
  refine ⟨_, ?_, ?_, ?_, rfl⟩ <;> rfl

/-- The withdrawal before the outcome leaves the claim, the counts and the numbers. -/
theorem run_withdrawal {l : Bool} {n k : Nat} {vs : List Work} (st : Settled l s) (run : s.prs.run = none) (c : s.claims n)
    (ov : (Machine.run k (.withdraw .pruner :: vs) s).overrun = false) : ∃ m t, NoRun l t [] ∧ t.claims n ∧
      t.prs.counts = s.prs.counts ∧ (t.ttr.trunks.map fun x => x.number).Sublist (s.ttr.trunks.map fun x => x.number) ∧
      Machine.run k (.withdraw .pruner :: vs) s = Machine.run m vs t := by
  obtain ⟨m, t, ⟨q, -, ct, counts, numbers⟩, e⟩ := run_then
    (P := fun u ws => NoRun l u ws ∧ (∀ w ∈ ws, ∀ n o, w ≠ .outcome n o) ∧ u.claims n ∧ u.prs.counts = s.prs.counts ∧
      (u.ttr.trunks.map fun x => x.number).Sublist (s.ttr.trunks.map fun x => x.number))
    (fun u w ws ⟨q, no, cu, counts, numbers⟩ => by
      obtain ⟨nw, rest⟩ := List.forall_mem_cons.1 no
      have i := Work.noRun_inner q.head
      refine ⟨q.step, fun v hv => ?_, claims_kept i nw cu, ?_, (inner_numbers i).trans numbers⟩
      · exact (List.mem_append.1 hv).elim (fun m => (noRun_works q.settled q.run q.head v m).2) (rest v)
      · rw [(handle_keeps w u).counts (by cases w <;> first | rfl | exact absurd rfl (nw _ _) | exact Bool.noConfusion i)]
        exact counts)
    k [.withdraw .pruner] vs s ⟨⟨st, run, by simp [Work.noRun, Work.inner]⟩, by simp, c, rfl, List.Sublist.refl _⟩ ov
  exact ⟨m, t, q, ct, counts, numbers, e⟩

/-- An outcome set on a claim: counted, the claim gone, the list purged (R140). -/
theorem handle_outcome_claimed {n : Nat} {o : Outcome} (c : s.claims n) : (handle (.outcome n o) s).1.decidedOn n o ∧
    (handle (.outcome n o) s).1.prs.counts.of o = bump 65535 (s.prs.counts.of o) := by
  constructor
  · intro x hx e
    rw [handle_outcome_trunks, if_pos (show _ = true from c)] at hx
    obtain ⟨y, -, rfl⟩ := List.mem_map.1 hx
    rw [decided_number] at e
    simp [Trunk.decided, e]
  · obtain ⟨x, hx, cx⟩ := claims_iff.1 c
    simp only [handle, prsOutcome, hx, Option.filter, cx]
    exact Counts.of_add_same ..

theorem run_endRun {l : Bool} {r : Run} {o : Outcome} {k : Nat} {vs : List Work} (st : Settled l s) (hr : s.prs.run = some r)
    (c : s.claims r.trunk) (ov : (run k (.endRun o :: vs) s).overrun = false) : ∃ m t, RunEnded l r o s t ∧
      run k (.endRun o :: vs) s = run m (s.afterRun r o ++ vs) t := by
  obtain ⟨u, hu, counts, ttr, e0⟩ := handle_endRun o hr
  obtain ⟨k1, e1⟩ : ∃ m, run k (.endRun o :: vs) s =
    run m (.withdraw .pruner :: .outcome r.trunk o :: (s.afterRun r o ++ vs)) u := run_peel e0 ov
  rw [e1] at ov ⊢
  have su : Settled l u := by
    have h := st.handle (w := .endRun o)
    rwa [e0] at h
  obtain ⟨k2, t2, q2, c2, counts2, numbers2, e2⟩ := run_withdrawal (n := r.trunk) su hu
    (by rw [State.claims, ttr]; exact c) ov
  rw [ttr] at numbers2
  rw [e2] at ov ⊢
  obtain ⟨k3, e3⟩ : ∃ m, run k2 (.outcome r.trunk o :: (s.afterRun r o ++ vs)) t2 =
    run m ((handle (.outcome r.trunk o) t2).2 ++ (s.afterRun r o ++ vs)) (handle (.outcome r.trunk o) t2).1 := run_peel rfl ov
  rw [e3] at ov ⊢
  obtain ⟨decided, count⟩ := handle_outcome_claimed (o := o) c2
  have outcome : NoRun l (handle (.outcome r.trunk o) t2).1 (handle (.outcome r.trunk o) t2).2 := by
    have q := NoRun.step (l := l) (w := .outcome r.trunk o) (ws := []) ⟨q2.settled, q2.run, by simp [Work.noRun, Work.inner]⟩
    rwa [List.append_nil] at q
  obtain ⟨m, t, ⟨q, d, ct, numbers⟩, e⟩ := run_then
    (P := fun u ws => NoRun l u ws ∧ u.decidedOn r.trunk o ∧ bump 65535 (s.prs.counts.of o) ≤ u.prs.counts.of o ∧
      (u.ttr.trunks.map fun x => x.number).Sublist (s.ttr.trunks.map fun x => x.number))
    (fun u w ws ⟨q, d, ct, numbers⟩ => by
      have i := Work.noRun_inner q.head
      exact ⟨q.step, decidedOn_kept i d, ct.trans (inner_counts i o), (inner_numbers i).trans numbers⟩)
    k3 _ (s.afterRun r o ++ vs) _ ⟨outcome, decided, by rw [count, counts2, counts], (inner_numbers (l := l) rfl).trans numbers2⟩ ov
  exact ⟨m, t, ⟨q, d, ct, numbers⟩, e⟩

theorem afterRun_inner {l : Bool} {r : Run} {o : Outcome} : ∀ w ∈ s.afterRun r o, w.inner l = true := by
  refine List.all_eq_true.1 ?_
  simp only [State.afterRun, List.all_append, Bool.and_eq_true]
  refine ⟨⟨⟨?_, ?_⟩, ?_⟩, rfl⟩
  all_goals split <;> rfl

theorem startRun_not_afterRun {r : Run} {o : Outcome} (n : Nat) : Work.startRun n ∉ s.afterRun r o := by
  simp only [State.afterRun, List.mem_append, not_or]
  refine ⟨⟨⟨?_, ?_⟩, ?_⟩, by simp⟩
  all_goals split <;> simp

/-- The end of a run, with all that follows it: its trunk has the outcome, counted, and no run of it comes again. -/
theorem run_endRun_ends {r : Run} {o : Outcome} {k : Nat} (hr : s.prs.run = some r) (c : s.claims r.trunk)
    (ov : (run k [.endRun o] s).overrun = false) :
    ((∀ q, (run k [.endRun o] s).prs.run = some q → q.trunk ≠ r.trunk) ∧ (run k [.endRun o] s).decidedOn r.trunk o) ∧
      bump 65535 (s.prs.counts.of o) ≤ (run k [.endRun o] s).prs.counts.of o := by
  obtain ⟨l, st⟩ := exists_settled s
  obtain ⟨m, t, e, er⟩ := run_endRun st hr c ov
  rw [er, List.append_nil] at ov ⊢
  have init : Ended l r.trunk o (bump 65535 (s.prs.counts.of o)) t (s.afterRun r o) :=
    ⟨⟨e.quiet.settled, afterRun_inner⟩, e.decided, e.count, fun q hq => (by rw [e.quiet.run] at hq; cases hq),
      startRun_not_afterRun _⟩
  rcases run_induct (fun u w ws q => q.step) m _ _ init with q | ⟨u, ws, -, eu⟩
  · exact ⟨⟨q.run, q.decided⟩, q.count⟩
  · rw [eu] at ov
    cases ov

end Sys2Proof.Machine

/-! PROOFS. The run's timers: a halt that completes, the phases that follow one another, and the statement (R57, R139 to R146). -/

namespace Sys2Proof.Machine

variable {s : State}

/-! ### A halt that completes -/

/-- Nothing arms the pruner (R134). -/
theorem handle_disarmed (w : Work) (h : s.prs.armed = false) : (handle w s).1.prs.armed = false := by
  cases hc : w.changesArmed with
  | false => rw [(handle_keeps w s).armed hc]; exact h
  | true =>
    cases w
    case endRun o =>
      simp only [handle, prsEndRun]
      split
      · exact h
      · simp [h]
    case haltDone => rfl
    case prunerEnd d =>
      simp only [handle, prsEnd]
      split <;> simp [h]
    all_goals cases hc

/-- Every claim has its outcome among the hand-offs that wait (R146). -/
structure Skipping (l : Bool) (s : State) (ws : List Work) : Prop where
  quiet : NoRun l s ws
  numbers : (s.ttr.trunks.map fun x => x.number).Nodup
  covered : ∀ x ∈ s.ttr.trunks, x.prunerClaim = true → ∃ o, Work.outcome x.number o ∈ ws

theorem find_of_nodup {t : Ttr} {x : Trunk} (h : (t.trunks.map fun x => x.number).Nodup) (m : x ∈ t.trunks) : t.find x.number = some x := by
  cases e : t.find x.number with
  | none => simpa using List.find?_eq_none.1 e x m
  | some y =>
    exact congrArg some (List.inj_on_of_nodup_map h (List.mem_of_find?_eq_some e) m (by simpa using List.find?_some e))

theorem Skipping.step {l : Bool} {w : Work} {ws : List Work} (h : Skipping l s (w :: ws)) :
    Skipping l (handle w s).1 ((handle w s).2 ++ ws) where
  quiet := h.quiet.step
  numbers := (inner_numbers (Work.noRun_inner h.quiet.head)).nodup h.numbers
  covered := by
    have waits (x : Trunk) (hx : x ∈ s.ttr.trunks) (hc : x.prunerClaim = true) (n : ∀ o, w ≠ .outcome x.number o) :
        ∃ o, Work.outcome x.number o ∈ (handle w s).2 ++ ws := by
      obtain ⟨o, m⟩ := h.covered x hx hc
      exact ⟨o, List.mem_append_right _ ((List.mem_cons.1 m).resolve_left (n o).symm)⟩
    by_cases out : ∃ n o, w = .outcome n o
    · obtain ⟨n, o, rfl⟩ := out
      rw [handle_outcome_trunks]
      split
      · intro x hx c
        obtain ⟨y, hy, rfl⟩ := List.mem_map.1 hx
        by_cases e : y.number = n
        · simp [Trunk.decided, e] at c
        · rw [Trunk.decided, if_neg (by simpa using e)] at c ⊢
          exact waits y hy c fun o' e' => e (by cases e'; rfl)
      · next none =>
        intro x hx c
        refine waits x hx c fun o' e' => none ?_
        cases e'
        rw [find_of_nodup h.numbers hx]
        exact c
    · refine inner_forall_trunks (Work.noRun_inner h.quiet.head) (fun x hx c => waits x hx c fun o e => out ⟨_, _, e⟩)
        (fun n x hx c => ?_) fun n o x e => absurd ⟨n, o, e⟩ out
      obtain ⟨hn, hc, -⟩ := weederCleared_same n x
      rw [hn]
      exact hx (hc ▸ c)

/-- No claim, no run, and no start of one to come. -/
structure Skipped (l : Bool) (s : State) (ws : List Work) : Prop where
  inner : Inner l s ws
  run : s.prs.run = none
  claims : ∀ x ∈ s.ttr.trunks, x.prunerClaim = false
  starts : ∀ n, Work.startRun n ∉ ws

theorem Skipped.step {l : Bool} {w : Work} {ws : List Work} (h : Skipped l s (w :: ws)) :
    Skipped l (handle w s).1 ((handle w s).2 ++ ws) where
  inner := h.inner.step
  run := by
    cases hr : (handle w s).1.prs.run with
    | none => rfl
    | some r =>
      rcases inner_run_trunk h.inner.head hr with ⟨q, hq, -⟩ | e
      · rw [h.run] at hq; cases hq
      · exact absurd (List.mem_cons.2 (.inl e.symm)) (h.starts r.trunk)
  claims := inner_forall_trunks h.inner.head h.claims (fun n x hx => by rw [(weederCleared_same n x).2.1, hx]) fun n o x _ _ hx => by
    unfold Trunk.decided
    split
    · rfl
    · exact hx
  starts n m := by
    rcases List.mem_append.1 m with m | m
    · have org := origin_of_mem m
      have k := h.inner.head
      cases w
      case consider =>
        obtain ⟨x, hx, -, c⟩ := consider_starts m
        rw [h.claims x hx] at c
        cases c
      all_goals first | exact Bool.noConfusion k | exact Bool.noConfusion org
    · exact h.starts n (List.mem_cons_of_mem _ m)

/-- The end of a HALTING run: the tool is disarmed, and with distinct numbers no claim and no run is left (R57, R146). -/
theorem run_endRun_halts {r : Run} {o : Outcome} {k : Nat} (hr : s.prs.run = some r) (halting : r.halting = true)
    (c : s.claims r.trunk) (ov : (run k [.endRun o] s).overrun = false) :
    (run k [.endRun o] s).prs.armed = false ∧ ((s.ttr.trunks.map fun x => x.number).Nodup →
      (run k [.endRun o] s).prs.run = none ∧ ∀ x ∈ (run k [.endRun o] s).ttr.trunks, x.prunerClaim = false) := by
  obtain ⟨l, st⟩ := exists_settled s
  obtain ⟨m, t, e, er⟩ := run_endRun st hr c ov
  have after : s.afterRun r o = .haltDone :: s.afterRun { r with halting := false } o := by
    simp [State.afterRun, halting]
  rw [er, List.append_nil, after] at ov ⊢
  obtain ⟨m1, e1⟩ : ∃ m', run m (.haltDone :: s.afterRun { r with halting := false } o) t =
    run m' (.skipAll :: .rest :: s.afterRun { r with halting := false } o) { t with prs := { t.prs with armed := false } } :=
    run_peel rfl ov
  rw [e1] at ov ⊢
  refine ⟨run_keeps (P := fun u => u.prs.armed = false) (fun w u h => handle_disarmed w h) (fun u h => h) _ _ _ rfl, fun nodup => ?_⟩
  obtain ⟨m2, e2⟩ : ∃ m', run m1 (.skipAll :: .rest :: s.afterRun { r with halting := false } o)
      { t with prs := { t.prs with armed := false } } =
    run m' (((t.ttr.trunks.filter fun t => t.prunerClaim).map fun t => .outcome t.number .skipped) ++
      (.rest :: s.afterRun { r with halting := false } o)) { t with prs := { t.prs with armed := false } } := run_peel rfl ov
  rw [e2] at ov ⊢
  have skipping : Skipping l { t with prs := { t.prs with armed := false } }
      ((t.ttr.trunks.filter fun t => t.prunerClaim).map fun t => .outcome t.number .skipped) := by
    refine ⟨⟨⟨e.quiet.settled.past, e.quiet.settled.noPass⟩, e.quiet.run, ?_⟩, e.numbers.nodup nodup, fun x hx cx => ?_⟩
    · exact List.forall_mem_map.2 fun _ _ => rfl
    · exact ⟨.skipped, List.mem_map.2 ⟨x, List.mem_filter.2 ⟨hx, cx⟩, rfl⟩⟩
  obtain ⟨m3, u, q, e3⟩ := run_then (fun u w ws q => q.step) m2 _ _ _ skipping ov
  rw [e3] at ov ⊢
  have init : Skipped l u (.rest :: s.afterRun { r with halting := false } o) := by
    refine ⟨⟨q.quiet.settled, ?_⟩, q.quiet.run, fun x hx => ?_, fun n => ?_⟩
    · exact List.forall_mem_cons.2 ⟨rfl, afterRun_inner⟩
    · cases cx : x.prunerClaim with
      | false => rfl
      | true =>
        obtain ⟨o', h⟩ := q.covered x hx cx
        cases h
    · simp [startRun_not_afterRun]
  rcases run_induct (fun u w ws q => q.step) m3 _ _ init with q | ⟨v, ws, -, ev⟩
  · exact ⟨q.run, q.claims⟩
  · rw [ev] at ov
    cases ov

/-! ### The timers -/

/-- The state in which a phase's timer has run out, its hand-offs still to come (R141). -/
def State.timedOut (s : State) (r : Run) (d : Nat) : State := (s.advance d).setRun (some { r with timer := none })

theorem exec_phaseTimer {r : Run} {d : Nat} (hp : s.powered = true) (hr : s.prs.run = some r) (ht : r.timer = some d) :
    exec .phaseTimerExpiry s = .next (cascade [.phaseEnd] (s.timedOut r d)).finish := by
  simp only [exec, execPhaseTimerExpiry]
  rw [live_on hp]
  simp only [hr, ht]
  rfl

theorem exec_stepWait {r : Run} {d : Nat} (hp : s.powered = true) (hr : s.prs.run = some r) (ht : r.stepWait = some d)
    (hd : r.deferred = true) : exec .stepWaitExpiry s = .next (cascade [.endRun .abandoned] (s.advance d)).finish := by
  simp only [exec, execStepWaitExpiry]
  rw [live_on hp]
  simp only [hr, ht, hd]
  rfl

/-- A phase that ends with the run: from the timer to the end (R141, R144, R146). -/
theorem cascade_phaseEnd_ends {r : Run} {d : Nat} {o : Outcome}
    (e : handle .phaseEnd (s.timedOut r d) = (s.timedOut r d, [.endRun o])) (c : s.claims r.trunk)
    (ov : (cascade [.phaseEnd] (s.timedOut r d)).overrun = false) :
    let t := cascade [.phaseEnd] (s.timedOut r d)
    (((∀ q, t.prs.run = some q → q.trunk ≠ r.trunk) ∧ t.decidedOn r.trunk o) ∧ bump 65535 (s.prs.counts.of o) ≤ t.prs.counts.of o) ∧
      (r.halting = true → t.prs.armed = false ∧ ((s.ttr.trunks.map fun x => x.number).Nodup →
        t.prs.run = none ∧ ∀ x ∈ t.ttr.trunks, x.prunerClaim = false)) := by
  obtain ⟨m, em⟩ : ∃ m, cascade [.phaseEnd] (s.timedOut r d) = run m [.endRun o] (s.timedOut r d) := run_peel e ov
  rw [em] at ov ⊢
  exact ⟨run_endRun_ends (s := s.timedOut r d) (r := { r with timer := none }) rfl c ov,
    fun h => run_endRun_halts (s := s.timedOut r d) (r := { r with timer := none }) rfl h c ov⟩

theorem handle_phaseEnd_blocking {r : Run} (d : Nat) (b : r.blocking = true) :
    handle .phaseEnd (s.timedOut r d) = (s.timedOut r d, [.endRun .blocked]) := by
  simp [handle, prsPhaseEnd, State.timedOut, State.setRun, b]

section Dwell

variable {r : Run} {g : Program} (d : Nat) (ph : r.phase = .dwell) (b : r.blocking = false) (hg : s.prs.program = some g)
include ph b hg

theorem handle_phaseEnd_last (last : g.steps.length ≤ r.step + 1) :
    handle .phaseEnd (s.timedOut r d) = (s.timedOut r d, [.endRun .pruned]) := by
  simp [handle, prsPhaseEnd, State.timedOut, State.setRun, State.advance, b, ph, hg, last]

theorem handle_phaseEnd_halting (more : r.step + 1 < g.steps.length) (h : r.halting = true) :
    handle .phaseEnd (s.timedOut r d) = (s.timedOut r d, [.endRun .skipped]) := by
  simp [handle, prsPhaseEnd, State.timedOut, State.setRun, State.advance, b, ph, hg, h, Nat.not_le.2 more]

theorem cascade_phaseEnd_next (h : r.halting = false) {next : Step} (e : g.steps[r.step + 1]? = some next) (nd : next.delay ≠ 0) :
    cascade [.phaseEnd] (s.timedOut r d) = (s.advance d).setRun (some { r with
      step := r.step + 1, phase := .delay, timer := some (max s.time.now d + 10 * next.delay) }) := by
  have more : ¬ g.steps.length ≤ r.step + 1 := Nat.not_le.2 (List.getElem?_eq_some_iff.1 e).1
  have ended : handle .phaseEnd (s.timedOut r d) =
      ((s.advance d).setRun (some { r with step := r.step + 1, timer := none }), [.enterPhase .delay]) := by
    simp [handle, prsPhaseEnd, State.timedOut, State.setRun, State.advance, b, ph, hg, h, more]
  have entered : handle (.enterPhase .delay) ((s.advance d).setRun (some { r with step := r.step + 1, timer := none })) =
      ((s.advance d).setRun (some { r with
        step := r.step + 1, phase := .delay, timer := some (max s.time.now d + 10 * next.delay) }), []) := by
    simp [handle, prsEnterPhase, State.setRun, State.advance, Prs.step, hg, e, nd]
  rw [cascade_eq, run_one ended]
  exact (run_leaf entered).trans (run_nil ..)

end Dwell

/-! ### To MOVE -/

/-- The confirmed pair that counts when a target is issued: of a move in progress the larger of both (R136). -/
def Head.base (h : Head) : Pair := if h.state = .moving then h.confirmed.max h.issued else h.confirmed

/-- The head on its way to a target (R135, R136). -/
def Head.sent (h : Head) (p : Pair) (due : Nat) : Head := ⟨.moving, p, h.base, h.settled && h.state != .moving, some due⟩

theorem Head.issue_sent {h : Head} {p : Pair} (n : (h.settled && h.state != .moving) = false ∨ p ≠ h.base) (due : Nat) :
    h.issue p due = (h.sent p due, false) := by
  by_cases m : h.state = .moving
  · simp [Head.issue, Head.sent, Head.base, m]
  · have g : ¬ (h.settled = true ∧ p = h.confirmed) := by
      rintro ⟨hs, hc⟩
      simp [Head.base, m, hs, hc] at n
    simp [Head.issue, Head.sent, Head.base, m, g]

section Move

variable {r : Run} {d : Nat} {st : Step} (ph : r.phase = .delay) (b : r.blocking = false) (hs : s.prs.step r = some st)
  (t : s.armTakes = true) (hh : st.target.height ≤ s.prs.head.confirmed.height) (hx : st.target.reach ≤ s.prs.head.confirmed.reach)
  (a : s.stu.prunerAdm = none)

/-- The state with the step's target sent (R135, R139). -/
def State.sentTo (s : State) (r : Run) (d : Nat) (p : Pair) : State :=
  { s.advance d with
    prs := { s.prs with run := some { r with phase := .move, timer := none }
                        head := s.prs.head.sent p (max s.time.now d + s.profile.headTime.toNat) }
    out := { s.out with headTxd := s.out.headTxd ++ [p] } }

theorem handle_enterPhase_move (hs : s.prs.step r = some st) (hh : st.target.height ≤ s.prs.head.confirmed.height)
    (hx : st.target.reach ≤ s.prs.head.confirmed.reach) : handle (.enterPhase .move) (s.timedOut r d) =
      ((s.advance d).setRun (some { r with phase := .move, timer := none }), [.issue st.target]) := by
  have step : (s.timedOut r d).prs.step { r with timer := none } = some st := hs
  simp only [handle, prsEnterPhase, State.timedOut, State.setRun, Option.bind_some] at step ⊢
  rw [step]
  simp [State.advance, Int.not_lt.2 hh, Int.not_lt.2 hx]

theorem sendTargets_physical {p : Pair} (m : s.simMotion = false) :
    s.sendTargets p = { s with out := { s.out with headTxd := s.out.headTxd ++ [p] } } := if_neg (by rw [m]; decide)

theorem setHead_physical {h : Head} (m : s.simMotion = false) : s.setHead h = { s with prs := { s.prs with head := h } } :=
  if_neg (by rw [m]; decide)

theorem handle_issue_sent (t : s.armTakes = true)
    (n : (s.prs.head.settled && s.prs.head.state != .moving) = false ∨ st.target ≠ s.prs.head.base) :
    handle (.issue st.target) ((s.advance d).setRun (some { r with phase := .move, timer := none })) =
      (s.sentTo r d st.target, [.moveStarted .pruner, .reload .head]) := by
  obtain ⟨drives, sim⟩ := armTakes_iff.1 t
  have d' : ((s.advance d).setRun (some { r with phase := .move, timer := none })).drives = true := drives
  have m' : ((s.advance d).setRun (some { r with phase := .move, timer := none })).simMotion = false := sim
  have h' : ((s.advance d).setRun (some { r with phase := .move, timer := none })).headNow = s.prs.head := by
    rw [State.headNow, m']; rfl
  simp only [handle, prsIssue, d', m', h', Head.issue_sent n, Bool.not_true, Bool.false_eq_true, ↓reduceIte]
  rw [setHead_physical (by rw [sendTargets_physical m']; exact sim), sendTargets_physical m']
  rfl

include ph b hs t hh hx a

theorem cascade_phaseEnd_move (n : (s.prs.head.settled && s.prs.head.state != .moving) = false ∨ st.target ≠ s.prs.head.base)
    (l : s.stu.load.head = itemHead s.profile (s.prs.head.base.max st.target)) :
    cascade [.phaseEnd] (s.timedOut r d) = s.sentTo r d st.target := by
  have ended : handle .phaseEnd (s.timedOut r d) = (s.timedOut r d, [.enterPhase .move]) := by
    simp [handle, prsPhaseEnd, State.timedOut, State.setRun, b, ph]
  have started : handle (.moveStarted .pruner) (s.sentTo r d st.target) = (s.sentTo r d st.target, []) :=
    handle_moveStarted_none (by simp [Stu.status, show (s.sentTo r d st.target).stu.prunerAdm = none from a])
  have reload : handle (.reload .head) (s.sentTo r d st.target) = (s.sentTo r d st.target, []) := by
    refine handle_reload_same _ (Eq.trans ?_ l.symm)
    simp [State.itemNow, State.headCounted, State.sentTo, Head.sent,
      State.advance, a]
  rw [cascade_eq, run_one ended]
  refine (run_one (handle_enterPhase_move hs hh hx)).trans ((run_one (handle_issue_sent t n)).trans ?_)
  exact (run_leaf started).trans ((run_leaf reload).trans (run_nil ..))

end Move

theorem SameBase.finish {u t : State} (h : SameBase u t) : SameBase u t.finish := h.trans (by constructor <;> rfl)

/-- Settles O38: each phase's end by the hand-offs it makes, each end of a run by the claim that stands until its outcome. -/
theorem runTimers : Obligations.RunTimers := by
  intro s r hp hr ended claimed
  have timed {d : Nat} (ht : r.timer = some d) := exec_phaseTimer hp hr ht
  refine ⟨fun d ht => ⟨_, timed ht, ?_⟩, ?_, ?_, ?_, ?_, ?_⟩
  · exact (SameBase.trans (by constructor <;> rfl) (cascade_base [.phaseEnd] (s.timedOut r d) rfl)).finish
  · intro d st ht ph b hs t hh hx a h base settled n l
    rw [timed ht, cascade_phaseEnd_move ph b hs t hh hx a n l]
    rfl
  · intro d g next ht ph b h hg e nd
    rw [timed ht, cascade_phaseEnd_next d ph b hg h e nd]
    refine ⟨_, rfl, ?_, rfl, rfl, rfl, rfl⟩
    exact Cutters.gate_off _
  · intro d g ht ph b hg c
    refine ⟨_, timed ht, fun ov => ⟨fun last => ?_, fun more h => ?_, fun h => ?_⟩⟩
    · exact (cascade_phaseEnd_ends (handle_phaseEnd_last d ph b hg last) c ov).1
    · exact (cascade_phaseEnd_ends (handle_phaseEnd_halting d ph b hg more h) c ov).1
    · rcases Nat.lt_or_ge (r.step + 1) g.steps.length with more | last
      · exact (cascade_phaseEnd_ends (handle_phaseEnd_halting d ph b hg more h) c ov).2 h
      · exact (cascade_phaseEnd_ends (handle_phaseEnd_last d ph b hg last) c ov).2 h
  · intro d ht b c
    exact ⟨_, timed ht, fun ov => (cascade_phaseEnd_ends (handle_phaseEnd_blocking d b) c ov).1⟩
  · intro d hw hd
    have base := (cascade_base [.endRun .abandoned] (s.advance d) rfl).finish
    exact ⟨_, exec_stepWait hp hr hw hd, base, congrArg Clock.now base.time, fun c ov => run_endRun_ends hr c ov⟩

end Sys2Proof.Machine

/-! PROOFS. SPEED_RECORD: the history, the speed, and sections that stand as their terms say (R49, R154, R155). -/

namespace Sys2Proof.Machine

variable {s : State}

/-! ### What the terms depend on -/

/-- Of the class a trip alone changes whether the band stops (R31). -/
theorem inner_stops {l : Bool} {w : Work} (k : w.inner l = true) (n : ∀ c, w ≠ .trip c) :
    (handle w s).1.stu.band.stops = s.stu.band.stops := by
  cases hc : w.changesStu with
  | false => rw [(handle_leaves w s).stu hc]
  | true =>
    cases w
    case trip c => exact absurd rfl (n c)
    case takeResult =>
      simp only [handle, stuTakeResult]
      split
      · rfl
      · split
        all_goals
          next b =>
            repeat' split
            all_goals simp [b, Stu.setBand, Band.stops]
    case evalOne r => cases r <;> simp only [handle, stuEvaluate] <;> split <;> rfl
    case ask r p => cases r <;> simp only [handle, stuAsk, stuEvaluate] <;> split <;> rfl
    case withdraw r => cases r <;> rfl
    case moveStarted r => cases r <;> simp only [handle, stuMoveStarted] <;> split <;> rfl
    case compute | ceiling | reload | tankReport =>
      simp only [handle, stuCompute, stuCeiling, stuReload, stuTankReport, stuItem]
      repeat' split
      all_goals rfl
    all_goals first | exact Bool.noConfusion k | exact Bool.noConfusion hc

/-- The sections stand as their terms say (R154). -/
def State.sectionsHold (s : State) : Prop := s.spg.sections = s.sprayTerms.sections

/-- Two states of the same terms. -/
theorem sprayTerms_congr {t : State} (psc : t.psc = s.psc) (map : SameMap s.mpu t.mpu) (profile : t.profile = s.profile)
    (odu : t.odu = s.odu) (stops : t.stu.band.stops = s.stu.band.stops) (tank : t.spg.tank = s.spg.tank)
    (reserved : t.spg.reserved = s.spg.reserved) (halted : t.lgs.halted = s.lgs.halted) :
    t.sprayTerms = s.sprayTerms := by
  simp only [State.sprayTerms, State.running, State.selected, State.inPass, psc, map.cursorBay, map.permission, profile, odu, stops,
    tank, reserved, halted]

/-- The reservation sought at this hand-off: granted or refused, it brings a decision with it (R158). -/
def State.seeks (s : State) : Prop := ∃ r, s.spg.openRec = some r ∧ (s.spg.reserved || r.roomWait || s.lgs.halted) = false

theorem seek_decides (h : s.seeks) : Work.decide ∈ (handle .seek s).2 := by
  obtain ⟨r, hr, e⟩ := h
  simp only [handle, spgSeek, hr, e]
  split
  · rename_i c; cases c
  · split <;> simp [spgGrant]

theorem seek_idle (h : ¬ s.seeks) : handle .seek s = (s, []) := by
  simp only [handle, spgSeek]
  split
  · rfl
  · next r hr =>
    cases e : s.spg.reserved || r.roomWait || s.lgs.halted with
    | true => rfl
    | false => exact absurd ⟨r, hr, e⟩ h

/-- A term that asks for the reservation stands before the reservation alone (Table 8-2). -/
theorem SprayTerms.wants_reservation {t : SprayTerms} (h : (t.sections.map fun x => x == .closed .reservation).any = true) :
    t.notHalted = true ∧ t.reserved = false := by
  have one {a b : Bool} (e : t.state a b = .closed .reservation) : t.notHalted = true ∧ t.reserved = false := by
    revert e
    unfold SprayTerms.state
    repeat' split
    all_goals simp_all
  simp only [SprayTerms.sections, Six.zip, Six.map, Six.any, Bool.or_eq_true, beq_iff_eq] at h
  rcases h with ((((h | h) | h) | h) | h) | h <;> exact one h

/-- A decision leaves the sections as their terms say, or hands on the reservation to be sought (R155). -/
theorem decide_holds : (handle .decide s).1.sectionsHold ∨ (handle .decide s = (s, [.seek]) ∧ s.seeks) := by
  simp only [handle, spgDecide]
  split
  · next h =>
    obtain ⟨wants, waits⟩ := Bool.and_eq_true_iff.1 h
    obtain ⟨halted, reserved⟩ := SprayTerms.wants_reservation wants
    obtain ⟨r, hr, w⟩ := Option.any_eq_true _ _ |>.1 waits
    refine .inr ⟨rfl, r, hr, ?_⟩
    simp only [State.sprayTerms, Bool.not_eq_true'] at halted reserved w
    rw [reserved, w, halted]
    rfl
  · exact .inl rfl

/-! ### The sections hold when every hand-off is done -/

/-- The sections stand as their terms say, or a decision is still to come. -/
structure Deciding (l : Bool) (s : State) (ws : List Work) : Prop where
  inner : Inner l s ws
  noPulse : Work.takeOff ∉ ws
  holds : s.sectionsHold ∨ Work.decide ∈ ws ∨ Work.sprayStop ∈ ws ∨ (s.seeks ∧ ∃ vs, ws = .seek :: vs)

theorem handle_suspend_holds {c : Suspension} (h : s.sectionsHold) :
    (handle (.suspend c) s).1.sectionsHold ∨ Work.sprayStop ∈ (handle (.suspend c) s).2 := by
  cases r : s.running with
  | true => right; rw [(handle_suspend_stops c).2, r]; simp
  | false =>
    left
    have off : (handle (.suspend c) s).1.sprayTerms.sections = s.sprayTerms.sections := by
      rw [State.sprayTerms_off _ (by rw [(handle_suspend_stops c).1]; rfl), State.sprayTerms_off _ (by rw [r]; rfl)]
    rw [State.sectionsHold, off, (handle_keeps _ s).spg rfl]
    exact h

/-- The hand-offs of the class that can change the sections or their terms. -/
def Work.changesTerms : Work → Bool
  | .trip _ | .suspend _ | .enterLockout | .startEnd | .halt | .decide | .seek | .sprayStop | .takeOff => true
  | _ => false

theorem handle_holds {l : Bool} {w : Work} (k : w.inner l = true) (n : w ≠ .takeOff) (h : s.sectionsHold) :
    (handle w s).1.sectionsHold ∨ Work.decide ∈ (handle w s).2 ∨ Work.sprayStop ∈ (handle w s).2 ∨
      ((handle w s).1.seeks ∧ ∃ vs, (handle w s).2 = .seek :: vs) := by
  by_cases special : w.changesTerms = true
  · cases w <;> first | exact absurd special Bool.noConfusion | exact absurd rfl n | skip
    case trip c =>
      rcases handle_trip_cases (s := s) c with e | ⟨r, k, n, -, -, e⟩
      · rw [e]; exact .inl h
      · rw [e]; right; left; by_cases first : k = 0 <;> simp [State.tripWorks, first]
    case suspend c => exact (handle_suspend_holds h).imp_right fun m => .inr (.inl m)
    case enterLockout => right; left; simp only [handle, cduLockout]; split <;> simp
    case startEnd => right; left; simp [handle, mlkStartEnd]
    case halt => right; left; simp [handle, lgsHalt]
    case decide =>
      rcases decide_holds (s := s) with d | ⟨e, d⟩
      · exact .inl d
      · rw [e]; exact .inr (.inr (.inr ⟨d, _, rfl⟩))
    case seek =>
      by_cases d : s.seeks
      · exact .inr (.inl (seek_decides d))
      · rw [seek_idle d]; exact .inl h
    case sprayStop => right; left; simp [handle, spgStop]
  · left
    have base := handle_base w s (Work.inner_plain k)
    have keeps := handle_keeps w s
    have spg := keeps.spg (by cases w <;> first | rfl | exact absurd rfl n | exact absurd rfl special | exact Bool.noConfusion k)
    have terms : (handle w s).1.sprayTerms = s.sprayTerms :=
      sprayTerms_congr ((handle_leaves w s).psc (by cases w <;> first | rfl | exact absurd rfl special | exact Bool.noConfusion k))
        (inner_map k) base.profile (inner_odu k) (inner_stops k fun c e => special (by rw [e]; rfl)) (by rw [spg]) (by rw [spg])
        (keeps.halted fun e => special (by rw [e]; rfl))
    rw [State.sectionsHold, terms, spg]
    exact h

theorem Deciding.step {l : Bool} {w : Work} {ws : List Work} (h : Deciding l s (w :: ws)) :
    Deciding l (handle w s).1 ((handle w s).2 ++ ws) where
  inner := h.inner.step
  noPulse m := by
    rcases List.mem_append.1 m with m | m
    · have o := origin_of_mem m
      cases w
      case takeOff => exact h.noPulse (List.mem_cons_self ..)
      all_goals exact Bool.noConfusion o
    · exact h.noPulse (List.mem_cons_of_mem _ m)
  holds := by
    have n : w ≠ .takeOff := fun e => h.noPulse (e ▸ List.mem_cons_self ..)
    have front (x : (handle w s).1.sectionsHold ∨ Work.decide ∈ (handle w s).2 ∨ Work.sprayStop ∈ (handle w s).2 ∨
        ((handle w s).1.seeks ∧ ∃ vs, (handle w s).2 = .seek :: vs)) : (handle w s).1.sectionsHold ∨
        Work.decide ∈ (handle w s).2 ++ ws ∨ Work.sprayStop ∈ (handle w s).2 ++ ws ∨
          ((handle w s).1.seeks ∧ ∃ vs, (handle w s).2 ++ ws = .seek :: vs) := by
      rcases x with x | x | x | ⟨x, vs, e⟩
      · exact .inl x
      · exact .inr (.inl (List.mem_append_left _ x))
      · exact .inr (.inr (.inl (List.mem_append_left _ x)))
      · exact .inr (.inr (.inr ⟨x, vs ++ ws, by rw [e]; rfl⟩))
    rcases h.holds with x | x | x | ⟨x, vs, e⟩
    · exact front (handle_holds h.inner.head n x)
    · rcases List.mem_cons.1 x with rfl | x
      · rcases decide_holds (s := s) with d | ⟨e, d⟩
        · exact front (.inl d)
        · exact front (.inr (.inr (.inr ⟨by rw [e]; exact d, [], by rw [e]⟩)))
      · exact .inr (.inl (List.mem_append_right _ x))
    · rcases List.mem_cons.1 x with rfl | x
      · exact front (.inr (.inl (by simp [handle, spgStop])))
      · exact .inr (.inr (.inl (List.mem_append_right _ x)))
    · cases e
      exact front (.inr (.inl (seek_decides x)))

/-- When a decision and all that follows it is done, the sections stand as their terms then say. -/
theorem cascade_decide_holds (ov : (cascade [.decide] s).overrun = false) : (cascade [.decide] s).sectionsHold := by
  obtain ⟨l, st⟩ := exists_settled s
  have init : Deciding l s [.decide] := ⟨⟨st, by simp [Work.inner]⟩, by simp, .inr (.inl (by simp))⟩
  rcases run_induct (fun u w ws q => q.step) Config.handOffBound _ _ init with ⟨-, -, q⟩ | ⟨u, ws, -, e⟩
  · rcases q with q | q | q | ⟨-, vs, q⟩
    · exact q
    all_goals cases q
  · rw [show cascade [.decide] s = _ from e] at ov
    cases ov

/-- Where no term asks for the reservation, a decision sets the sections, and at most a query follows (R155). -/
theorem cascade_decide_sections (h : (s.sprayTerms.sections.map fun x => x == .closed .reservation).any = false) :
    (cascade [.decide] s).spg.sections = s.sprayTerms.sections := by
  have first : (handle .decide s).1.spg.sections = s.sprayTerms.sections ∧ ∀ v ∈ (handle .decide s).2, v = .actQuery .spray := by
    simp only [handle, spgDecide, h, Bool.false_and, Bool.false_eq_true, ↓reduceIte]
    refine ⟨trivial, fun v hv => ?_⟩
    split at hv
    · exact List.mem_singleton.1 hv
    · cases hv
  rw [cascade_cons, List.append_nil]
  refine run_within (P := fun u => u.spg.sections = s.sprayTerms.sections)
    (W := fun w => w = .actQuery .spray ∨ ∃ d : Detail, d.isMinor = false ∧ w = .occur .confirmRequest d) ?_ ?_ (fun u q => q)
    _ _ _ (fun w hw => .inl (first.2 w hw)) first.1
  · rintro w u k q
    rw [(handle_keeps w u).spg (by rcases k with rfl | ⟨d, -, rfl⟩ <;> rfl)]
    exact q
  · rintro w u k - v hv
    rcases k with rfl | ⟨d, hd, rfl⟩
    · simp only [handle, mpuActQuery] at hv
      repeat' split at hv
      all_goals first | exact .inr ⟨_, rfl, List.mem_singleton.1 hv⟩ | cases hv
    · rw [handle_occur_notMinor hd] at hv
      cases hv

/-! ### The history -/

/-- The state in which the position has been recorded, the sections still to be decided (R49). -/
def State.recorded (s : State) : State :=
  let s1 := s.advance (s.time.speedAt + 10)
  { s1 with time := { s1.time with speedAt := s1.time.now }, odu := { s1.odu with history := s.odu.rpc :: s.odu.history.take 20 } }

theorem exec_speedRecord (hp : s.powered = true) : exec .speedRecord s = .next (cascade [.decide] s.recorded).finish := by
  simp only [exec, execSpeedRecord]
  exact live_on hp

/-- Of a history of twenty-one entries with a new one put before twenty, the last is the twentieth of the old. -/
theorem getLastD_recorded (n : Nat) {l : List Nat} (h : l.length = 21) : (n :: l.take 20).getLastD 0 = l.getD 19 0 := by
  rw [List.getLastD_eq_getLast?, List.getLast?_eq_getElem?]
  simp [h]

theorem history_length (n : Nat) {l : List Nat} (h : l.length = 21) : (n :: l.take 20).length = 21 := by simp [h]

theorem recorded_speed (h : s.odu.history.length = 21) : s.recorded.odu.speed = ((s.odu.rpc : Int) - (s.odu.history.getD 19 0 : Nat)) * 5 := by
  rw [Odu.speed, ← getLastD_recorded s.odu.rpc h]
  rfl

/-- Settles O23: the recording and its decision, whose sections stand by the invariant of the decisions to come. -/
theorem speedRecording : Obligations.SpeedRecording := by
  refine ⟨fun s hp h => ?_, fun s p => ⟨rfl, rfl⟩, fun s => ?_, fun tag n s hp hm hn ht => ⟨_, exec_trunkRead hp hm ht hn, rfl⟩⟩
  · have base := cascade_base [.decide] s.recorded rfl
    have history : (cascade [.decide] s.recorded).odu.history = s.odu.rpc :: s.odu.history.take 20 := congrArg Odu.history base.odu_eq
    have offset : (cascade [.decide] s.recorded).odu.offset = s.odu.offset :=
      (congrArg Odu.offset base.odu_eq).trans rfl
    refine ⟨_, exec_speedRecord hp, history, ?_, ?_, congrArg Clock.now base.time, ?_, base.rpc, offset,
      base.prescaler, fun off => ?_, ?_, cascade_decide_holds⟩
    · exact (congrArg List.length history).trans (history_length _ h)
    · rw [← recorded_speed h]
      simp only [Odu.speed, State.finish_odu, history]
      rfl
    · exact (congrArg Clock.speedAt base.time).trans (congrArg Clock.now base.time).symm
    · have e : cascade [.decide] s.recorded = _ :=
        (run_leaf (handle_decide_off s.recorded (Bool.and_eq_false_iff.2 (.inl off)))).trans (run_nil ..)
      rw [e]
      exact ⟨rfl, rfl⟩
    · exact cascade_decide_sections (s := s.recorded)
  · simp [State.sprayTerms]

end Sys2Proof.Machine

/-! PROOFS. FEELER_CAPTURE: which edges count, the record, its claims, its queue entries, and its stay in the list to the end of
the step (R57 to R60, R110, R112, R113). -/

namespace Sys2Proof.Machine

variable {s : State}

/-! ### The capture -/

/-- The Trunk Tracker with an edge taken as a capture (R58). -/
def State.captured (s : State) : Ttr := { s.ttr with spacing := some s.odu.rpc, counter := (s.ttr.counter + 1) % 65536 }

/-- The record of a capture (R59). -/
def State.newTrunk (s : State) (weeder pruner : Bool) : Trunk :=
  { number := s.ttr.counter, pos := s.odu.rpc, bay := (s.mpu.cursorBay .reference).map fun b => b.index
    weederClaim := weeder, prunerClaim := pruner, outcome := none }

/-- The state with the capture's record in the list. -/
def State.listed (s : State) (weeder pruner : Bool) : State :=
  { s with ttr := { s.captured with trunks := s.ttr.trunks ++ [s.newTrunk weeder pruner] } }

theorem exec_feeler_ignored (hp : s.powered = true) (w : s.selected .weeder = false) (p : s.selected .pruner = false) :
    exec .feelerCapture s = .next s.finish := by
  simp only [exec, execFeelerCapture]
  rw [live_on hp, if_neg (by simp [w, p])]

section Edge

variable (hp : s.powered = true) (tool : s.selected .weeder = true ∨ s.selected .pruner = true)
include hp tool

theorem exec_feeler : exec .feelerCapture s = .next (cascade (ttrCapture s).2 (ttrCapture s).1).finish := by
  simp only [exec, execFeelerCapture]
  rw [live_on hp, if_pos (by simpa using tool)]

theorem exec_feeler_near {r : Nat} (h : s.ttr.spacing = some r) (near : (s.odu.rpc : Int) < r + s.profile.trunkSpacing) :
    exec .feelerCapture s = .next s.finish := by
  have e : ttrCapture s = (s, []) := if_pos (by simp [h, near])
  rw [exec_feeler hp tool, e]
  rfl

end Edge

/-- The edge is a capture: past the spacing reference by TRUNK_SPACING (R58). -/
def State.clear (s : State) : Prop := ∀ r, s.ttr.spacing = some r → (r : Int) + s.profile.trunkSpacing ≤ s.odu.rpc

/-- The weeder, the pruner takes the trunk (R59). -/
def State.weederTakes (s : State) : Bool := s.selected .weeder && !s.wsq.withheld
def State.prunerTakes (s : State) : Bool := s.selected .pruner && s.prs.armed && !s.prs.fault

section Capture

variable (c : s.clear)
include c

theorem capture_near : (s.ttr.spacing.any fun r => decide ((s.odu.rpc : Int) < r + s.profile.trunkSpacing)) = false := by
  cases h : s.ttr.spacing with
  | none => rfl
  | some r => simpa using c r h

theorem ttrCapture_none (w : s.weederTakes = false) (p : s.prunerTakes = false) : ttrCapture s = ({ s with ttr := s.captured }, []) := by
  simp only [State.weederTakes, State.prunerTakes] at w p
  simp only [ttrCapture, capture_near c, w, p]
  rfl

theorem ttrCapture_listed (t : s.weederTakes = true ∨ s.prunerTakes = true) (room : s.ttr.trunks.length < 32) : ttrCapture s =
    (s.listed s.weederTakes s.prunerTakes, (if s.weederTakes then [.queueTrunk s.ttr.counter s.odu.rpc] else []) ++
      if s.prunerTakes then [.consider] else []) := by
  have n : (!s.weederTakes && !s.prunerTakes) = false := by rcases t with t | t <;> simp [t]
  simp only [State.weederTakes, State.prunerTakes] at n
  simp only [ttrCapture, capture_near c, n]
  exact if_pos room

theorem ttrCapture_full (t : s.weederTakes = true ∨ s.prunerTakes = true) (full : 32 ≤ s.ttr.trunks.length) : ttrCapture s =
    ({ s with ttr := { s.captured with overflowed := true } },
      [.occur .trunkOverflow (.trunkOverflow s.ttr.counter s.odu.rpc)] ++ (if s.weederTakes then [.overflow true] else []) ++
        if s.prunerTakes then [.trunkLost s.ttr.counter s.odu.rpc] else []) := by
  have n : (!s.weederTakes && !s.prunerTakes) = false := by rcases t with t | t <;> simp [t]
  simp only [State.weederTakes, State.prunerTakes] at n
  simp only [ttrCapture, capture_near c, n]
  exact if_neg (Nat.not_lt.2 full)

theorem ttrCapture_plain : plain (ttrCapture s).2 = true ∧ SameBase { s with ttr := s.captured } (ttrCapture s).1 := by
  cases t : s.weederTakes || s.prunerTakes with
  | false =>
    obtain ⟨w, p⟩ := Bool.or_eq_false_iff.1 t
    rw [ttrCapture_none c w p]
    exact ⟨rfl, .refl _⟩
  | true =>
    have t := Bool.or_eq_true_iff.1 t
    rcases Nat.lt_or_ge s.ttr.trunks.length 32 with room | full
    · rw [ttrCapture_listed c t room]
      exact ⟨by cases s.weederTakes <;> cases s.prunerTakes <;> rfl, by constructor <;> rfl⟩
    · rw [ttrCapture_full c t full]
      exact ⟨by cases s.weederTakes <;> cases s.prunerTakes <;> rfl, by constructor <;> rfl⟩

end Capture

/-! ### In a SUSPENDED pass, and with the tracks of the weeder ahead -/

theorem handle_queueTrunk_off {n p : Nat} (h : (!s.running || s.wsq.holdQueue) = true) : handle (.queueTrunk n p) s = (s, []) := if_pos h

theorem cascade_capture_suspended (r : s.running = false) {w p : Bool} {n q : Nat} :
    cascade ((if w then [.queueTrunk n q] else []) ++ if p then [.consider] else []) s = s := by
  have queue : handle (.queueTrunk n q) s = (s, []) := handle_queueTrunk_off (by rw [r]; rfl)
  have consider : handle .consider s = (s, []) := handle_consider_off s (by simp [r])
  cases w <;> cases p
  · rfl
  · exact (run_leaf consider).trans (run_nil ..)
  · exact (run_leaf queue).trans (run_nil ..)
  · exact (run_leaf queue).trans ((run_leaf consider).trans (run_nil ..))

/-- A zone ahead that merges with nothing and fits: its RETRACT and its EXTEND join the queue (R112). -/
theorem handle_queueTrunk_pair {n p : Nat} (r : s.running = true) (q : s.wsq.holdQueue = false)
    (ahead : (s.odu.rpc : Int) < (zoneOf s.profile p).start) (fits : s.wsq.queue.length ≤ 14)
    (apart : ∀ e, s.wsq.queue.getLast? = some e → e.kind = .retract ∨ e.deferred = true ∨ e.trigger < (zoneOf s.profile p).start) :
    handle (.queueTrunk n p) s = ({ s with wsq := { s.wsq with queue := s.wsq.queue ++
      [⟨.retract, (zoneOf s.profile p).start, n, false⟩, ⟨.extend, (zoneOf s.profile p).stop, n, false⟩] } }, []) := by
  have merged : (s.wsq.queue.getLast?.filter fun e =>
      e.kind == .extend && !e.deferred && decide ((zoneOf s.profile p).start ≤ e.trigger)) = none := by
    cases h : s.wsq.queue.getLast? with
    | none => rfl
    | some e =>
      rcases apart e h with k | k | k <;> simp [Option.filter, k]
  have behind : decide ((zoneOf s.profile p).start ≤ (s.odu.rpc : Int)) = false := decide_eq_false (by omega)
  have room : ¬ Config.queuePlaces < s.wsq.queue.length + 2 := by
    show ¬ 16 < _
    omega
  simp only [handle, wsqQueueTrunk, r, q, merged, behind]
  simp [room]

/-! ### The newest record of the list -/

/-- The last zone of a stretch and those merged into later ones hold a property of numbers. -/
def Stretch.allOf (p : Nat → Prop) (st : Stretch) : Prop := p st.last ∧ ∀ n ∈ st.merged, p n

theorem addZone_merged {p : Nat → Prop} {acc : List Stretch} (h : ∀ st ∈ acc, st.allOf p) (n : Nat) (z : Zone) :
    ∀ st ∈ addZone acc n z, (st.last = n ∨ p st.last) ∧ ∀ m ∈ st.merged, p m := by
  have keep (st : Stretch) (hs : st.allOf p) : (st.last = n ∨ p st.last) ∧ ∀ m ∈ st.merged, p m := ⟨.inr hs.1, hs.2⟩
  cases acc with
  | nil =>
    simp only [addZone, List.mem_singleton]
    rintro st rfl
    exact ⟨.inl rfl, by simp⟩
  | cons a rest =>
    obtain ⟨ha, hrest⟩ := List.forall_mem_cons.1 h
    simp only [addZone]
    split
    · refine List.forall_mem_cons.2 ⟨⟨.inl rfl, fun m hm => ?_⟩, fun st hs => keep st (hrest st hs)⟩
      rcases List.mem_append.1 hm with hm | hm
      · exact ha.2 m hm
      · rw [List.mem_singleton.1 hm]; exact ha.1
    · exact List.forall_mem_cons.2 ⟨⟨.inl rfl, by simp⟩, fun st hs => keep st (h st hs)⟩

theorem foldl_addZone_all {p : Nat → Prop} {f : Trunk → Zone} (l : List Trunk) (h : ∀ t ∈ l, p t.number) {acc : List Stretch}
    (a : ∀ st ∈ acc, st.allOf p) : ∀ st ∈ l.foldl (fun acc t => addZone acc t.number (f t)) acc, st.allOf p := by
  induction l generalizing acc with
  | nil => exact a
  | cons t l ih =>
    obtain ⟨ht, hl⟩ := List.forall_mem_cons.1 h
    refine ih hl fun st hs => ?_
    obtain ⟨last, merged⟩ := addZone_merged a t.number (f t) st hs
    exact ⟨last.elim (fun e => e ▸ ht) id, merged⟩

theorem mem_of_mem_fitStretches {rpc room : Nat} {l : List Stretch} {st : Stretch} (h : st ∈ (fitStretches rpc room l).1) : st ∈ l := by
  induction l generalizing room with
  | nil => cases h
  | cons a l ih =>
    simp only [fitStretches] at h
    split at h
    · exact (List.mem_cons.1 h).elim (fun e => e ▸ List.mem_cons_self ..) fun m => List.mem_cons_of_mem _ (ih m)
    · cases h

/-- The newest record of the list stands there, its claims as they are, its zone ahead while the weeder has not cleared it. -/
structure Newest (x : Trunk) (s : State) : Prop where
  listed : ∃ l, s.ttr.trunks = l ++ [x] ∧ (x.weederClaim = true → ∀ y ∈ l, y.number ≠ x.number)
  claimed : x.claimed = true
  ahead : x.weederClaim = true → (s.odu.rpc : Int) < (zoneOf s.profile x.pos).stop

theorem Newest.mem {x : Trunk} (h : Newest x s) : x ∈ s.ttr.trunks := by
  obtain ⟨l, e, -⟩ := h.listed
  simp [e]

/-- A rebuild keeps the newest trunk's claim: its zone lies ahead, and is merged into no later one (R113). -/
theorem Newest.rebuild {x : Trunk} (h : Newest x s) (w : x.weederClaim = true) :
    Work.clearWeeder x.number ∉ (handle .rebuild s).2 := by
  obtain ⟨l, e, apart⟩ := h.listed
  have others := apart w
  have ahead := h.ahead w
  simp only [handle, wsqRebuild, List.mem_append, List.mem_map, List.mem_flatMap, List.mem_filter, e]
  rintro (((⟨t, ⟨⟨ht | ht, -⟩, hb⟩, hn⟩ | ⟨st, hst, n, hn, hc⟩) | m) | m)
  · exact others t ht (Work.clearWeeder.inj hn)
  · rw [List.mem_singleton.1 ht] at hb
    exact absurd (of_decide_eq_true hb) (Int.not_le.2 ahead)
  · have mem := List.mem_reverse.1 (mem_of_mem_fitStretches hst)
    rw [List.filter_append, List.filter_append, List.foldl_append] at mem
    rw [show (([x].filter fun t => t.weederClaim).filter fun t => decide ((s.odu.rpc : Int) < (zoneOf s.profile t.pos).stop)) = [x] by
      simp [w, ahead]] at mem
    have before := foldl_addZone_all (p := fun n => n ≠ x.number) (f := fun t => zoneOf s.profile t.pos)
      ((l.filter fun t => t.weederClaim).filter fun t => decide ((s.odu.rpc : Int) < (zoneOf s.profile t.pos).stop))
      (fun t ht => others t (List.mem_of_mem_filter (List.mem_of_mem_filter ht))) (acc := []) (by simp)
    exact (addZone_merged before _ _ st mem).2 n hn (Work.clearWeeder.inj hc)
  · split at m <;> simp at m
  · simp at m

/-- What the newest record outlasts: another trunk cleared, any outcome without a claim of its own, a purge (R61, R140). -/
theorem Newest.handle {x : Trunk} {w : Work} (h : Newest x s) (k : w.inner true = true)
    (clear : x.weederClaim = true → w ≠ .clearWeeder x.number) (outcome : x.prunerClaim = true → ∀ n o, w ≠ .outcome n o) :
    Newest x (Machine.handle w s).1 := by
  obtain ⟨l, e, apart⟩ := h.listed
  refine ⟨?_, h.claimed, fun a => ?_⟩
  · have mapped (f : Trunk → Trunk) (hx : f x = x) (hn : ∀ y, (f y).number = y.number) :
        ∃ m, (l ++ [x]).map f = m ++ [x] ∧ (x.weederClaim = true → ∀ y ∈ m, y.number ≠ x.number) := by
      refine ⟨l.map f, by simp [hx], fun w => List.forall_mem_map.2 fun y hy => ?_⟩
      rw [hn]
      exact apart w y hy
    rcases inner_trunks (s := s) k with t | ⟨n, rfl⟩ | rfl | ⟨n, o, rfl⟩
    · exact ⟨l, t.trans e, apart⟩
    · rw [handle_clearWeeder_trunks, e]
      refine mapped _ ?_ fun y => (weederCleared_same n y).1
      unfold Trunk.weederCleared
      split
      · next hn =>
        cases c : x.weederClaim with
        | true => exact absurd (by rw [show n = x.number by simpa using (beq_iff_eq.1 hn).symm]) (clear c)
        | false => rw [← c]
      · rfl
    · rw [handle_purge_trunks, e]
      exact ⟨l.filter Trunk.claimed, by simp [h.claimed], fun w y hy => apart w y (List.mem_of_mem_filter hy)⟩
    · rw [handle_outcome_trunks]
      split
      · next a =>
        rw [e]
        refine mapped _ ?_ fun y => decided_number n o y
        unfold Trunk.decided
        split
        · next hn =>
          exfalso
          have hn : x.number = n := beq_iff_eq.1 hn
          have pc : x.prunerClaim = false := by
            cases c : x.prunerClaim with
            | false => rfl
            | true => exact absurd rfl (outcome c n o)
          have wc : x.weederClaim = true := by simpa [Trunk.claimed, pc] using h.claimed
          obtain ⟨y, hy, c⟩ := claims_iff.1 (show s.claims n from a)
          have yn : y.number = n := by simpa using List.find?_some hy
          have hm : y ∈ l ++ [x] := e ▸ List.mem_of_find?_eq_some hy
          rcases List.mem_append.1 hm with m | m
          · exact apart wc y m (yn.trans hn.symm)
          · rw [List.mem_singleton.1 m, pc] at c
            cases c
        · rfl
      · exact ⟨l, e, apart⟩
  · rw [inner_odu k, (handle_base w s (Work.inner_plain k)).profile]
    exact h.ahead a

end Sys2Proof.Machine

/-! PROOFS. FEELER_CAPTURE: the pruner that is not done with the trunk, the record at the end of the step, the full list (R60, R139,
R140, R147). -/

namespace Sys2Proof.Machine

variable {s : State}

/-! ### A pruner that ends nothing -/

/-- The hand-offs of the class that neither start nor end a run, nor set an outcome. -/
def Work.calm : Work → Bool
  | .startRun _ | .enterPhase _ | .phaseEnd | .endRun _ | .headDone | .haltDone | .skipAll | .outcome _ _ | .issue _
  | .ask .pruner _ => false
  | w => w.inner true

theorem Work.calm_inner {w : Work} (h : w.calm = true) : w.inner true = true := by
  cases w
  case ask r p => rfl
  all_goals first | exact h | exact Bool.noConfusion h

/-- A run that goes on, nothing asked for it; or none, the newest trunk the pruner's only one and its window not open yet (R139). -/
inductive PrunerWaits (x : Trunk) (s : State) : Prop
  | run (r : Run) : s.prs.run = some r → r.halting = false → s.stu.prunerAdm = none → PrunerWaits x s
  | idle : s.prs.run = none → (∀ y ∈ s.ttr.trunks, y.prunerClaim = true → y.pos = x.pos) → (s.odu.rpc : Int) < windowOpen s.profile x.pos →
      s.odu.rpc ≤ windowLatest s.profile x.pos → PrunerWaits x s

/-- A pruner that waits finds no candidate to act on (R139). -/
theorem PrunerWaits.consider {x : Trunk} (h : PrunerWaits x s) : handle .consider s = (s, []) := by
  cases h with
  | run r hr _ _ => exact handle_consider_off s (by simp [hr])
  | idle hr only opens latest =>
    cases hc : s.ttr.candidate with
    | none => exact handle_consider_none s hc
    | some t =>
      obtain ⟨mem, claim⟩ := candidate_claims hc
      simp only [handle, prsConsider, hc]
      split
      · next e =>
        cases e
        rw [only t mem claim, if_neg (Int.not_lt.2 latest), if_pos opens]
      · rfl

/-- The hand-offs that wait: calm ones, before them perhaps a rest move of a head that stands elsewhere. -/
def CalmQueue (s : State) (ws : List Work) : Prop :=
  (∀ w ∈ ws, w.calm = true) ∨
    ∃ vs, ws = .issue Pair.rest :: vs ∧ (∀ due, (s.headNow.issue Pair.rest due).2 = false) ∧ ∀ w ∈ vs, w.calm = true

/-- What a calm hand-off hands on is calm, or a rest move that does not end at once (R137). -/
theorem calm_works {x : Trunk} {w : Work} (st : Settled true s) (h : PrunerWaits x s) (k : w.calm = true) :
    (∀ v ∈ (handle w s).2, v.calm = true) ∨ (w = .rest ∧ (handle w s).2 = [.issue Pair.rest] ∧
      ∀ due, (s.headNow.issue Pair.rest due).2 = false) := by
  by_cases hw : w = .rest
  · subst hw
    rcases rest_works (s := s) with e | ⟨e, goes⟩
    · rw [e]; exact .inl (by simp)
    · exact .inr ⟨rfl, e, goes⟩
  · left
    intro v hv
    have i := inner_works st (Work.calm_inner k) v hv
    have o := origin_of_mem hv
    cases v
    case startRun | outcome =>
      cases w
      case consider => rw [h.consider] at hv; cases hv
      all_goals first | exact Bool.noConfusion k | exact Bool.noConfusion o
    case endRun =>
      cases w
      case prunerStop =>
        cases h with
        | run r hr hh _ => simp [handle, prsStop, hr, hh] at hv
        | idle hr _ _ _ => simp [handle, prsStop, hr] at hv
      all_goals first | exact Bool.noConfusion k | exact Bool.noConfusion o
    case issue p =>
      cases w
      case rest => exact absurd rfl hw
      case answer r a =>
        cases r <;> cases a <;> first | exact Bool.noConfusion o | skip
        cases h with
        | run r hr _ a => simp [handle, prsAnswer, hr, Stu.status, a] at hv
        | idle hr _ _ _ => simp [handle, prsAnswer, hr] at hv
      all_goals first | exact Bool.noConfusion k | exact Bool.noConfusion o
    case ask r p =>
      cases r
      · rfl
      · cases w <;> first | exact Bool.noConfusion k | exact Bool.noConfusion o
    case enterPhase | phaseEnd | headDone | haltDone | skipAll =>
      cases w <;> first | exact Bool.noConfusion k | exact Bool.noConfusion o
    all_goals exact i

/-- A calm hand-off, or a rest move that goes, leaves the pruner waiting. -/
theorem PrunerWaits.handle {x : Trunk} {w : Work} (h : PrunerWaits x s) (k : w.calm = true ∨ w = .issue Pair.rest) :
    PrunerWaits x (Machine.handle w s).1 := by
  have i : w.inner true = true := k.elim Work.calm_inner fun e => by rw [e]; rfl
  cases h with
  | run r hr hh a =>
    have adm : (Machine.handle w s).1.stu.prunerAdm = none := handle_prunerAdm_none a fun p e => by
      rcases k with k | k
      · rw [e] at k; cases k
      · rw [e] at k; cases k
    have kept : ∃ q, (Machine.handle w s).1.prs.run = some q ∧ q.halting = false := by
      cases hc : w.changesRun with
      | false => exact ⟨r, (handle_keeps w s).run hc ▸ hr, hh⟩
      | true =>
        cases w
        case answer q b =>
          cases q
          · cases hc
          · cases b
            · simp [Machine.handle, prsAnswer, hr, Stu.status, a, hh]
            · rw [handle_refused_pruner_none a]; exact ⟨r, hr, hh⟩
        case prunerStop => simp [Machine.handle, prsStop, hr, hh, State.setRun]
        all_goals rcases k with k | k <;> first | exact Bool.noConfusion k | exact Bool.noConfusion hc | cases k
    obtain ⟨q, hq, hqh⟩ := kept
    exact .run q hq hqh adm
  | idle hr only opens latest =>
    have base := handle_base w s (Work.inner_plain i)
    have odu := inner_odu (s := s) i
    refine .idle ?_ ?_ (by rw [odu, base.profile]; exact opens) (by rw [odu, base.profile]; exact latest)
    · cases e : (Machine.handle w s).1.prs.run with
      | none => rfl
      | some q =>
        rcases inner_run_trunk i e with ⟨q', hq', -⟩ | e
        · rw [hr] at hq'; cases hq'
        · rcases k with k | k <;> rw [e] at k <;> cases k
    · refine inner_forall_trunks i only (fun n y hy c => ?_) fun n o y _ _ hy c => ?_
      · rw [(weederCleared_same n y).2.1] at c
        rw [show (y.weederCleared n).pos = y.pos by unfold Trunk.weederCleared; split <;> rfl]
        exact hy c
      · unfold Trunk.decided at c ⊢
        split
        · next hn => rw [if_pos hn] at c; cases c
        · next hn => rw [if_neg hn] at c; exact hy c

/-! ### The record at the end of the step -/

/-- The newest record, with the hand-offs that wait: none that ends a claim of it. -/
structure Kept (x : Trunk) (s : State) (ws : List Work) : Prop where
  inner : Inner true s ws
  newest : Newest x s
  weeder : x.weederClaim = true → Work.clearWeeder x.number ∉ ws
  pruner : x.prunerClaim = true → PrunerWaits x s ∧ CalmQueue s ws

theorem CalmQueue.head {w : Work} {ws : List Work} (h : CalmQueue s (w :: ws)) : w.calm = true ∨ w = .issue Pair.rest := by
  rcases h with h | ⟨vs, e, -, -⟩
  · exact .inl (h w (List.mem_cons_self ..))
  · exact .inr (List.cons.inj e).1

theorem CalmQueue.tail {w : Work} {ws : List Work} (h : CalmQueue s (w :: ws)) : ∀ v ∈ ws, v.calm = true := by
  rcases h with h | ⟨vs, e, -, h⟩
  · exact fun v hv => h v (List.mem_cons_of_mem _ hv)
  · rw [(List.cons.inj e).2]; exact h

theorem CalmQueue.step {x : Trunk} {w : Work} {ws : List Work} (st : Settled true s) (p : PrunerWaits x s) (h : CalmQueue s (w :: ws)) :
    CalmQueue (handle w s).1 ((handle w s).2 ++ ws) := by
  have plain (q : ∀ v ∈ (handle w s).2, v.calm = true) : CalmQueue (handle w s).1 ((handle w s).2 ++ ws) :=
    .inl fun v hv => (List.mem_append.1 hv).elim (q v) (h.tail v)
  rcases h with k | ⟨vs, e, goes, k⟩
  · rcases calm_works st p (k w (List.mem_cons_self ..)) with q | ⟨rfl, e, goes⟩
    · exact plain q
    · right
      refine ⟨ws, by rw [e]; rfl, goes, fun v hv => k v (List.mem_cons_of_mem _ hv)⟩
  · obtain ⟨rfl, rfl⟩ := List.cons.inj e
    refine plain (List.all_eq_true.1 ?_)
    simp only [handle, prsIssue]
    split
    · rfl
    · simp only [goes]
      cases s.prs.run <;> rfl

theorem Kept.step {x : Trunk} {w : Work} {ws : List Work} (h : Kept x s (w :: ws)) : Kept x (handle w s).1 ((handle w s).2 ++ ws) where
  inner := h.inner.step
  newest := by
    refine h.newest.handle h.inner.head (fun c e => h.weeder c (e ▸ List.mem_cons_self ..)) fun c n o e => ?_
    rcases (h.pruner c).2.head with k | k
    · rw [e] at k; cases k
    · rw [e] at k; cases k
  weeder c m := by
    rcases List.mem_append.1 m with m | m
    · have o := origin_of_mem m
      have k := h.inner.head
      cases w
      case rebuild => exact h.newest.rebuild c m
      all_goals first | exact Bool.noConfusion k | exact Bool.noConfusion o
    · exact h.weeder c (List.mem_cons_of_mem _ m)
  pruner c := ⟨(h.pruner c).1.handle (h.pruner c).2.head, (h.pruner c).2.step h.inner.settled (h.pruner c).1⟩

theorem run_kept {x : Trunk} {n : Nat} {ws : List Work} (h : Kept x s ws) : x ∈ (run n ws s).ttr.trunks := by
  rcases run_induct (fun u w ws q => q.step) n _ _ h with q | ⟨u, vs, q, e⟩
  · exact q.newest.mem
  · rw [e]; exact q.newest.mem

/-- The new record queued: of the trunks that the queue names at most an earlier one is cleared (R112). -/
theorem handle_queueTrunk_works {n p : Nat} (h : ∀ e ∈ s.wsq.queue, e.trunk ≠ n) : ∀ v ∈ (handle (.queueTrunk n p) s).2,
    v.calm = true ∧ v ≠ .clearWeeder n := by
  have merges {q : Action → Bool} {e : Action} (he : s.wsq.queue.getLast?.filter q = some e) : ¬ e.trunk = n :=
    h e (List.mem_of_getLast? (Option.filter_eq_some_iff.1 he).1)
  simp only [handle, wsqQueueTrunk]
  repeat' split
  all_goals simp [Work.calm, Work.inner]
  all_goals next he => exact merges he

/-- A valid profile has the zone's end ahead of its capture, and a window that closes no earlier than it opens (R110, R138). -/
theorem valid_ahead (h : s.profile.valid = true) (n : Nat) : (n : Int) < (zoneOf s.profile n).stop ∧
    windowOpen s.profile n ≤ windowLatest s.profile n := by
  simp only [Profile.valid, Profile.inRange, within, Bool.and_eq_true, decide_eq_true_eq] at h
  simp only [zoneOf, windowOpen, windowLatest]
  omega

theorem handle_queueTrunk_wsq (n p : Nat) : (handle (.queueTrunk n p) s).1 = { s with wsq := (handle (.queueTrunk n p) s).1.wsq } := by
  simp only [handle, wsqQueueTrunk]
  repeat' split
  all_goals rfl

theorem PrunerWaits.of_wsq {x : Trunk} (h : PrunerWaits x s) (w : Wsq) : PrunerWaits x { s with wsq := w } := by
  cases h with
  | run r hr hh a => exact .run r hr hh a
  | idle hr only opens latest => exact .idle hr only opens latest

section Listed

variable (c : s.clear) (t : s.weederTakes = true ∨ s.prunerTakes = true) (r : s.running = true) (room : s.ttr.trunks.length < 32)
  (valid : s.profile.valid = true)
  (w : s.weederTakes = true → (∀ e ∈ s.wsq.queue, e.trunk ≠ s.ttr.counter) ∧
    (s.ttr.counter :: s.ttr.trunks.map fun x => x.number).Nodup)
  (p : s.prunerTakes = true → (s.prs.run ≠ none ∧ s.stu.prunerAdm = none ∧ ∀ r, s.prs.run = some r → r.halting = false) ∨
    (s.prs.run = none ∧ (∀ x ∈ s.ttr.trunks, x.prunerClaim = false) ∧ 0 < s.profile.pruneLag - s.profile.pruneLead))
include t valid w in
theorem listed_newest : Newest (s.newTrunk s.weederTakes s.prunerTakes) (s.listed s.weederTakes s.prunerTakes) where
  listed := ⟨s.ttr.trunks, rfl, fun takes y hy e => (List.nodup_cons.1 (w takes).2).1 (List.mem_map.2 ⟨y, hy, e⟩)⟩
  claimed := by rcases t with t | t <;> simp [Trunk.claimed, State.newTrunk, t]
  ahead _ := (valid_ahead valid s.odu.rpc).1

include valid p in
theorem listed_waits (takes : s.prunerTakes = true) :
    PrunerWaits (s.newTrunk s.weederTakes s.prunerTakes) (s.listed s.weederTakes s.prunerTakes) := by
  rcases p takes with ⟨hr, adm, going⟩ | ⟨hr, only, later⟩
  · obtain ⟨q, hq⟩ := Option.ne_none_iff_exists'.1 hr
    exact .run q hq (going q hq) adm
  · have opens : (s.odu.rpc : Int) < windowOpen s.profile s.odu.rpc := by
      simp only [windowOpen]
      omega
    refine .idle hr (fun y hy claim => ?_) opens ((Int.le_of_lt opens).trans (valid_ahead valid s.odu.rpc).2)
    rcases List.mem_append.1 hy with m | m
    · rw [only y m] at claim; cases claim
    · rw [List.mem_singleton.1 m]

include c t r room valid w p in
theorem cascade_capture_mem : s.newTrunk s.weederTakes s.prunerTakes ∈ (cascade (ttrCapture s).2 (ttrCapture s).1).ttr.trunks := by
  rw [ttrCapture_listed c t room]
  have settled : Settled true (s.listed s.weederTakes s.prunerTakes) :=
    ⟨fun _ e => by
      have m : s.mode = .startup := e
      simp [State.running, State.inPass, show s.psc.mode = .startup from m] at r, fun e => nomatch e⟩
  have newest := listed_newest t valid w
  have waits := listed_waits valid p
  have tail : ∀ v ∈ (if s.prunerTakes then [Work.consider] else []), v.calm = true ∧ v ≠ .clearWeeder s.ttr.counter := by
    split <;> simp [Work.calm, Work.inner]
  cases hw : s.weederTakes with
  | false =>
    rw [hw] at newest waits settled
    exact run_kept ⟨⟨settled, fun v hv => Work.calm_inner (tail v hv).1⟩, newest, fun e => (nomatch e),
      fun takes => ⟨waits takes, .inl fun v hv => (tail v hv).1⟩⟩
  | true =>
    rw [hw] at newest waits settled
    have works : ∀ v ∈ (handle (.queueTrunk s.ttr.counter s.odu.rpc) (s.listed true s.prunerTakes)).2 ++
        (if s.prunerTakes then [Work.consider] else []), v.calm = true ∧ v ≠ .clearWeeder s.ttr.counter :=
      fun v hv => (List.mem_append.1 hv).elim (handle_queueTrunk_works (s := s.listed true s.prunerTakes) (w hw).1 v) (tail v)
    have same := handle_queueTrunk_wsq (s := s.listed true s.prunerTakes) s.ttr.counter s.odu.rpc
    refine run_kept (n := Config.handOffBound - 1) (ws := (handle (.queueTrunk s.ttr.counter s.odu.rpc) (s.listed true s.prunerTakes)).2 ++
        (if s.prunerTakes then [Work.consider] else [])) ?_
    rw [same]
    exact ⟨⟨⟨settled.past, settled.noPass⟩, fun v hv => Work.calm_inner (works v hv).1⟩, ⟨newest.listed, newest.claimed, newest.ahead⟩,
      fun _ m => (works _ m).2 rfl, fun takes => ⟨(waits takes).of_wsq _, .inl fun v hv => (works v hv).1⟩⟩

end Listed

/-! ### The full list (R60) -/

/-- TRUNK_OVERFLOW is raised by the capture alone, so its detail stays. -/
theorem run_overflow_kept {d : Detail} {n : Nat} {ws : List Work} (h : (s.cdu.flags.get .trunkOverflow).detail = some d)
    (k : ∀ w ∈ ws, ∀ d, w ≠ .occur .trunkOverflow d) : ((run n ws s).cdu.flags.get .trunkOverflow).detail = some d := by
  refine run_within (P := fun u => (u.cdu.flags.get .trunkOverflow).detail = some d) (W := fun w => ∀ d, w ≠ .occur .trunkOverflow d)
    (fun w u k q => ?_) (fun w u k q v hv d e => ?_) (fun u q => q) n ws s k h
  · cases hc : w.changesFlags with
    | false => rw [(handle_leaves w u).flags hc]; exact q
    | true =>
      cases w
      case occur f d' =>
        simp only [handle, cduOccur]
        rw [State.raise_get_other u d' fun e => k d' (by rw [e])]
        exact q
      case majorFlag c o m =>
        have other := State.raise_get_other u (f := .faultMajor) (g := .trunkOverflow)
          (.major c o m (u.cdu.flags.majorCauses.add c)) (by decide)
        simp only [handle, cduMajorFlag]
        repeat' split
        all_goals exact (congrArg FlagState.detail other).trans q
      all_goals cases hc
  · have o := origin_of_mem hv
    rw [e] at o
    cases o

section Full

variable (c : s.clear) (t : s.weederTakes = true ∨ s.prunerTakes = true) (full : 32 ≤ s.ttr.trunks.length)
include c t full

theorem cascade_capture_overflow : ((cascade (ttrCapture s).2 (ttrCapture s).1).cdu.flags.get .trunkOverflow).detail =
    some (.trunkOverflow s.ttr.counter s.odu.rpc) := by
  rw [ttrCapture_full c t full, List.append_assoc]
  refine run_overflow_kept (n := Config.handOffBound - 1) (s := State.raise _ .trunkOverflow _) ?_ ?_
    (ws := (if s.weederTakes then [.overflow true] else []) ++ if s.prunerTakes then [.trunkLost s.ttr.counter s.odu.rpc] else [])
  · rw [State.raise_get_same]
  · intro w hw d e
    subst e
    cases s.weederTakes <;> cases s.prunerTakes <;> simp at hw

theorem cascade_capture_lost (w : s.weederTakes = false) : ∃ u, u.ttr = { s.captured with overflowed := true } ∧
    u.prs.counts.missed = bump 65535 s.prs.counts.missed ∧ cascade (ttrCapture s).2 (ttrCapture s).1 = u := by
  have p : s.prunerTakes = true := t.resolve_left (by rw [w]; decide)
  rw [ttrCapture_full c t full, w, p]
  refine ⟨_, ?_, ?_, (run_leaf (handle_occur_notMinor rfl)).trans
    ((run_one (w := .trunkLost s.ttr.counter s.odu.rpc) rfl).trans ((run_leaf (handle_occur_notMinor rfl)).trans (run_nil ..)))⟩
  · simp
  · simp [Config.count16Max]

end Full

/-- Settles O25: the edge's branches one by one; the record's stay by the invariant of the newest record. -/
theorem feelerCaptures : Obligations.FeelerCaptures := by
  intro s hp
  refine ⟨exec_feeler_ignored hp, fun tool => ⟨fun r h near => exec_feeler_near hp tool h near, ?_⟩⟩
  intro c weeder pruner ttr
  have exec := exec_feeler hp tool
  refine ⟨⟨_, exec, ?base⟩, ?none, ?suspended, ?queued, ?kept, ?full⟩
  case base => exact ((ttrCapture_plain c).2.trans (cascade_base _ _ (ttrCapture_plain c).1)).finish
  case none =>
    intro w p
    rw [exec, ttrCapture_none c w p]
    rfl
  case suspended =>
    intro t r room
    rw [exec, ttrCapture_listed c t room]
    exact congrArg (fun v : State => Host.Outcome.next v.finish)
      (cascade_capture_suspended (s := s.listed s.weederTakes s.prunerTakes) r)
  case queued =>
    intro w p r room start stop u
    rw [exec, ttrCapture_listed c (.inl w) room, show s.weederTakes = true from w, show s.prunerTakes = false from p]
    refine ⟨fun hold => ?_, fun hold ahead fits apart => ?_⟩
    · have off : handle (.queueTrunk s.ttr.counter s.odu.rpc) (s.listed true false) = (s.listed true false, []) :=
        handle_queueTrunk_off (by rw [show (s.listed true false).wsq.holdQueue = true from hold, Bool.or_true])
      exact congrArg (fun v : State => Host.Outcome.next v.finish) ((run_leaf off).trans (run_nil ..))
    · have queued := handle_queueTrunk_pair (s := s.listed true false) (n := s.ttr.counter) (p := s.odu.rpc) r hold ahead fits apart
      exact congrArg (fun v : State => Host.Outcome.next v.finish) ((run_leaf queued).trans (run_nil ..))
  case kept =>
    intro t r room valid hw hpr
    exact ⟨_, exec, fun _ => cascade_capture_mem c t r room valid (fun w => ⟨(hw w).1, (hw w).2.1⟩) hpr⟩
  case full =>
    intro t full
    refine ⟨_, exec, cascade_capture_overflow c t full, fun w => ?_⟩
    obtain ⟨u, ttr, missed, e⟩ := cascade_capture_lost c t full w
    rw [e]
    exact ⟨ttr, missed⟩

end Sys2Proof.Machine

/-! PROOFS. The change of RPC in a pass, as stated for every change of the phase pair: refuted where no phase changes (R46, R47). -/

namespace Sys2Proof.Machine

variable {s : State}

/-- A transition that counts nothing gives the pair to the Odometry Unit, and nothing else (R46). -/
theorem exec_encoder_still {a b : Bool} (hp : s.powered = true) (h : phaseStep s.odu.encA s.odu.encB a b = 0) :
    exec (.encoderTransition a b) s =
      .next ({ s with pins := { s.pins with encA := a, encB := b }, odu := { s.odu with encA := a, encB := b } } : State).finish := by
  simp only [exec, execEncoderTransition]
  rw [live_on (s := { s with pins := { s.pins with encA := a, encB := b } }) hp, if_pos h]

/-- A pass at the start of its row, the prescaler standing at P, where no step leaves it. -/
def State.prescalerAtTop : State :=
  { State.reset with psc := { State.reset.psc with mode := .pass }
                     odu := { State.reset.odu with prescaler := State.reset.profile.prescale } }

/-- Refutes O22: its last part asks a pitch of every phase pair for which `Odu.pulse` gives one, also where no phase changes. With
the prescaler at P, a value outside its range (R47), `Odu.pulse` gives a pitch for a step of 0 too; ENCODER_TRANSITION counts
nothing there (R46), so the furthest count stays 0 where 1 is asked. -/
theorem not_pulsesMoveTheRowPosition : ¬ Obligations.PulsesMoveTheRowPosition := by
  intro h
  obtain ⟨-, -, -, -, passes⟩ := h
  obtain ⟨t, e, furthest, -⟩ := passes false false true State.prescalerAtTop rfl rfl (by decide)
  have still := exec_encoder_still (s := State.prescalerAtTop) (a := false) (b := false) rfl rfl
  have stays : t.odu.furthest = 0 := by
    rw [still] at e
    cases e
    rfl
  have asked : t.odu.furthest = 1 := furthest
  omega

end Sys2Proof.Machine

/-! PROOFS. One bay of the window changed; MAP_CLEAR, SET_BAY_PERMIT, CONFIRM_BAY, SET_BAY_PROTECT, MAP_LOCK, MAP_UNLOCK and the key
(R71, R78, R82 to R85). -/

namespace Sys2Proof.Machine

variable {s : State}

/-! ### A command refused before its own tests (R201) -/

section Refused

variable {kind : Nat} {tag : Byte} {payload : List Byte} {inMode : State → Bool} {l : Bool}
  {body : State → Except Reason Accepted}

theorem command_wrongMode (hp : s.powered = true) (ht : s.takes ⟨BitVec.ofNat 8 kind, tag, payload⟩ = true)
    (hm : inMode (takeFrame ⟨BitVec.ofNat 8 kind, tag, payload⟩ s) = false) :
    command kind tag payload inMode l body s =
      .next ((takeFrame ⟨BitVec.ofNat 8 kind, tag, payload⟩ s).refusedWith ⟨BitVec.ofNat 8 kind, tag, payload⟩
        (modeReason s.mode)) := by
  rw [command_eq s hp ht, answer_mode _ _ hm, takeFrame_mode]
  rfl

theorem command_badLength (hp : s.powered = true) (ht : s.takes ⟨BitVec.ofNat 8 kind, tag, payload⟩ = true)
    (hm : inMode (takeFrame ⟨BitVec.ofNat 8 kind, tag, payload⟩ s) = true) (hl : l = false) :
    command kind tag payload inMode l body s =
      .next ((takeFrame ⟨BitVec.ofNat 8 kind, tag, payload⟩ s).refusedWith ⟨BitVec.ofNat 8 kind, tag, payload⟩ .badLength) := by
  rw [command_eq s hp ht, answer_length _ _ hm hl]
  rfl

end Refused

/-! ### One bay changed -/

/-- A change of the bay of one index that keeps its index is read at that index alone. -/
theorem bay_mapBay (m : Mpu) (i j : Nat) {f : Bay → Bay} (h : ∀ b, (f b).index = b.index) :
    (m.mapBay i f).bay j = if j = i then (m.bay j).map f else m.bay j := by
  have index (b : Bay) : (if b.index == i then f b else b).index = b.index := by split <;> simp [h]
  have found : (m.mapBay i f).bay j = (m.bay j).map fun b => if b.index == i then f b else b := by
    simp only [Mpu.bay, Mpu.mapBay, List.find?_map, Function.comp_def, index]
  rw [found]
  cases hb : m.bay j with
  | none => split <;> rfl
  | some b =>
    have hj : b.index = j := by simpa using List.find?_some hb
    by_cases e : j = i <;> simp [hj, e]

/-- The Map Unit with one bay changed: that bay, the other bays, the rest of the block. -/
theorem mapBay_spec {m : Mpu} {i : Nat} {b : Bay} {f : Bay → Bay} (h : ∀ b, (f b).index = b.index) (hb : m.bay i = some b) :
    (m.mapBay i f).bay i = some (f b) ∧ (∀ j, j ≠ i → (m.mapBay i f).bay j = m.bay j) ∧
      { m.mapBay i f with window := m.window } = m :=
  ⟨by rw [bay_mapBay m i i h, if_pos rfl, hb]; rfl, fun j hj => by rw [bay_mapBay m i j h, if_neg hj], rfl⟩

theorem setPermit_index (b : Bay) (k : Tool) (p : Permit) : (b.setPermit k p).index = b.index :=
  congrArg Prod.fst (setPermit_place b k p)

/-- A change of the window leaves the cursors. -/
theorem window_cursor (m : Mpu) (w : List Bay) (n : CursorName) : ({ m with window := w } : Mpu).cursor n = m.cursor n := by
  rcases n with _ | k
  · rfl
  · cases k <;> rfl

/-- The permission of a tool whose cursor stands in another bay, or in none, does not follow a bay's change. -/
theorem permission_mapBay {i : Nat} {k : Tool} {f : Bay → Bay} (h : ∀ b, (f b).index = b.index)
    (away : (s.mpu.cursor (.tool k)).res ≠ .bay i) :
    ({ s with mpu := s.mpu.mapBay i f } : State).permission k = s.permission k := by
  have cursor : (s.mpu.mapBay i f).cursor (.tool k) = s.mpu.cursor (.tool k) := window_cursor ..
  simp only [State.permission, cursor]
  cases hr : (s.mpu.cursor (.tool k)).res with
  | bay j =>
    have hj : j ≠ i := fun e => away (e ▸ hr)
    simp only [bay_mapBay _ _ _ h, if_neg hj]
  | miss => rfl
  | none => rfl

/-! ### MAP_CLEAR (R71) -/

theorem takeFrame_outside (f : Frame) (h : s.mode ≠ .idle) : (takeFrame f s).inIdle = false := by
  simpa [State.inIdle] using h

/-- Settles O27: the command carried out, its own test, each of its modes, its length. -/
theorem mapClear : Obligations.MapClear := by
  intro tag s hp f u
  have um : u.mpu = s.mpu := takeFrame_mpu f s
  refine ⟨fun ht => ?_, fun p hne ht hm => ?_⟩
  · have refused (h : s.mode ≠ .idle) : exec (.mapClear tag []) s = .next (u.refusedWith f (modeReason s.mode)) :=
      command_wrongMode (kind := 0x20) hp ht (takeFrame_outside f h)
    refine ⟨fun hm hl => ?_, fun hm hl => ?_, fun hm => ?_, fun hm => ?_, fun hm => ?_⟩
    · rw [← um]
      exact command_ok (kind := 0x20) (a := (_, [], fun _ => .mapClear u.mpu.window.length)) hp ht (takeFrame_inIdle f hm) rfl
        (if_neg (by rw [takeFrame_mpu, hl]; decide))
    · exact command_refused (kind := 0x20) hp ht (takeFrame_inIdle f hm) rfl (if_pos (by rw [takeFrame_mpu, hl]))
    · rcases hm with hm | hm <;> rw [refused (by rw [hm]; decide), hm] <;> rfl
    · rw [refused (by rw [hm]; decide), hm]; rfl
    · rw [refused (by rw [hm]; decide), hm]; rfl
  · exact command_badLength (kind := 0x20) hp ht (takeFrame_inIdle _ hm) (List.isEmpty_eq_false_iff.2 hne)

/-! ### SET_BAY_PERMIT (R79, R82) -/

section SetBayPermit

variable {tag i1 i0 tc c : Byte} {tool : Tool} {code : Permit} (hp : s.powered = true) (hm : s.mode = .idle ∨ s.mode = .pass)
  (ht : s.takes ⟨0x23#8, tag, [i1, i0, tc, c]⟩ = true) (htool : toolOfCode tc.toNat = some tool)
  (hcode : Permit.ofCode c.toNat = some code)

include hp hm ht htool hcode

theorem exec_setBayPermit_range (h : 4095 < bigEndian [i1, i0]) : exec (.setBayPermit tag [i1, i0, tc, c]) s =
    .next ((takeFrame ⟨0x23#8, tag, [i1, i0, tc, c]⟩ s).refusedWith ⟨0x23#8, tag, [i1, i0, tc, c]⟩ .outOfRange) := by
  refine command_refused (kind := 0x23) hp ht (takeFrame_inIdlePass _ hm) rfl ?_
  simp only [htool, hcode, decide_eq_false (Nat.not_le.2 h)]

theorem exec_setBayPermit_notFound (h : bigEndian [i1, i0] ≤ 4095) (n : s.mpu.bay (bigEndian [i1, i0]) = none) :
    exec (.setBayPermit tag [i1, i0, tc, c]) s =
      .next ((takeFrame ⟨0x23#8, tag, [i1, i0, tc, c]⟩ s).refusedWith ⟨0x23#8, tag, [i1, i0, tc, c]⟩ .notFound) := by
  refine command_refused (kind := 0x23) hp ht (takeFrame_inIdlePass _ hm) rfl ?_
  simp only [htool, hcode, decide_eq_true h, takeFrame_mpu, n]

theorem exec_setBayPermit_locked {b : Bay} (h : bigEndian [i1, i0] ≤ 4095) (hb : s.mpu.bay (bigEndian [i1, i0]) = some b)
    (l : b.protect = true ∨ s.mpu.mapLock = true) : exec (.setBayPermit tag [i1, i0, tc, c]) s =
      .next ((takeFrame ⟨0x23#8, tag, [i1, i0, tc, c]⟩ s).refusedWith ⟨0x23#8, tag, [i1, i0, tc, c]⟩ .locked) := by
  refine command_refused (kind := 0x23) hp ht (takeFrame_inIdlePass _ hm) rfl ?_
  simp only [htool, hcode, decide_eq_true h, takeFrame_mpu, hb]
  exact if_pos (by simpa using l)

/-- A changed code with no cursor in the bay: the bay alone, and nothing handed on. -/
theorem exec_setBayPermit_changed {b : Bay} (h : bigEndian [i1, i0] ≤ 4095) (hb : s.mpu.bay (bigEndian [i1, i0]) = some b)
    (free : b.protect = false) (unlocked : s.mpu.mapLock = false) (n : code ≠ b.permit tool)
    (away : ∀ k, (s.mpu.cursor k).res ≠ .bay (bigEndian [i1, i0])) :
    ∃ r, exec (.setBayPermit tag [i1, i0, tc, c]) s =
      .next (({ takeFrame ⟨0x23#8, tag, [i1, i0, tc, c]⟩ s with
          mpu := s.mpu.mapBay (bigEndian [i1, i0]) fun b => { b.setPermit tool code with confirmed := b.confirmed.set tool false } }
        : State).replied ⟨0x23#8, tag, [i1, i0, tc, c]⟩ r) := by
  refine ⟨_, command_ok (kind := 0x23) (a := (_, [], State.permitReply (bigEndian [i1, i0]))) hp ht (takeFrame_inIdlePass _ hm)
    rfl ?_⟩
  have cursor (f : Bay → Bay) (k : CursorName) : (s.mpu.mapBay (bigEndian [i1, i0]) f).cursor k = s.mpu.cursor k :=
    window_cursor ..
  have reference : (s.mpu.reference.res == .bay (bigEndian [i1, i0])) = false := beq_false_of_ne (away .reference)
  simp only [htool, hcode, decide_eq_true h, takeFrame_mpu, hb, free, unlocked, Bool.or_self, Bool.false_eq_true, if_false,
    if_neg n, cursor, beq_false_of_ne (away (.tool tool)), reference, Bool.and_false, List.append_nil]

end SetBayPermit

/-! ### CONFIRM_BAY (R76, R78) -/

section ConfirmBay

variable {tag i1 i0 tc : Byte} {tool : Tool} (hp : s.powered = true) (hm : s.mode = .idle ∨ s.mode = .pass)
  (ht : s.takes ⟨0x25#8, tag, [i1, i0, tc]⟩ = true) (htool : toolOfCode tc.toNat = some tool)
  (h : bigEndian [i1, i0] ≤ 4095)

include hp hm ht htool h

theorem exec_confirmBay_notFound (n : s.mpu.bay (bigEndian [i1, i0]) = none) : exec (.confirmBay tag [i1, i0, tc]) s =
    .next ((takeFrame ⟨0x25#8, tag, [i1, i0, tc]⟩ s).refusedWith ⟨0x25#8, tag, [i1, i0, tc]⟩ .notFound) := by
  refine command_refused (kind := 0x25) hp ht (takeFrame_inIdlePass _ hm) rfl ?_
  simp only [htool, decide_eq_true h, takeFrame_mpu, n]
  rfl

theorem exec_confirmBay {b : Bay} (hb : s.mpu.bay (bigEndian [i1, i0]) = some b)
    (away : (s.mpu.cursor (.tool tool)).res ≠ .bay (bigEndian [i1, i0])) : exec (.confirmBay tag [i1, i0, tc]) s =
      .next (({ takeFrame ⟨0x25#8, tag, [i1, i0, tc]⟩ s with
          mpu := s.mpu.mapBay (bigEndian [i1, i0]) fun b => { b with confirmed := b.confirmed.set tool true } } : State).replied
        ⟨0x25#8, tag, [i1, i0, tc]⟩ .confirmBay) := by
  refine command_ok (kind := 0x25) (a := (_, [], fun _ => .confirmBay)) hp ht (takeFrame_inIdlePass _ hm) rfl ?_
  have same := permission_mapBay (s := takeFrame ⟨0x25#8, tag, [i1, i0, tc]⟩ s)
    (f := fun b => { b with confirmed := b.confirmed.set tool true }) (fun _ => rfl) (by rw [takeFrame_mpu]; exact away)
  simp only [takeFrame_mpu] at same
  simp only [htool, decide_eq_true h, takeFrame_mpu, hb, same, if_true]
  rfl

end ConfirmBay

/-- Settles O28: each test in its turn; the change of the one bay, which no cursor stands in, hands nothing on. -/
theorem bayPermitsAndConfirmation : Obligations.BayPermitsAndConfirmation := by
  intro tag i1 i0 tc c tool s hp hm htool index f u g v
  refine ⟨fun ht code hcode => ⟨exec_setBayPermit_notFound hp hm ht htool hcode, exec_setBayPermit_range hp hm ht htool hcode,
    fun b h hb => ⟨exec_setBayPermit_locked hp hm ht htool hcode h hb, fun free unlocked n away => ?_⟩⟩,
    fun ht h => exec_confirmBay_notFound hp hm ht htool h, fun b ht h hb away => ?_⟩
  · obtain ⟨r, e⟩ := exec_setBayPermit_changed hp hm ht htool hcode h hb free unlocked n away
    exact ⟨_, r, e, mapBay_spec (fun b => setPermit_index b tool code) hb⟩
  · exact ⟨_, exec_confirmBay hp hm ht htool h hb away, mapBay_spec (fun _ => rfl) hb⟩

/-! ### SET_BAY_PROTECT (R83) -/

theorem settingOfCode_none {n : Nat} (h : 1 < n) : settingOfCode n = none := by
  match n, h with
  | n + 2, _ => rfl

theorem settingOfCode_some {n : Nat} (h : n ≤ 1) : settingOfCode n = some (n == 1) := by
  match n, h with
  | 0, _ => rfl
  | 1, _ => rfl

section SetBayProtect

variable {tag i1 i0 b0 : Byte} (hp : s.powered = true) (hm : s.mode = .idle ∨ s.mode = .pass)
  (ht : s.takes ⟨0x24#8, tag, [i1, i0, b0]⟩ = true)

include hp hm ht

theorem exec_setBayProtect_range (h : 4095 < bigEndian [i1, i0] ∨ 1 < b0.toNat) : exec (.setBayProtect tag [i1, i0, b0]) s =
    .next ((takeFrame ⟨0x24#8, tag, [i1, i0, b0]⟩ s).refusedWith ⟨0x24#8, tag, [i1, i0, b0]⟩ .outOfRange) := by
  refine command_refused (kind := 0x24) hp ht (takeFrame_inIdlePass _ hm) rfl ?_
  rcases h with h | h
  · simp only [decide_eq_false (Nat.not_le.2 h)]
    split
    · next _ _ e => cases e
    · rfl
  · simp only [settingOfCode_none h]

variable (h : bigEndian [i1, i0] ≤ 4095) (h1 : b0.toNat ≤ 1)

include h h1

theorem exec_setBayProtect_notFound (n : s.mpu.bay (bigEndian [i1, i0]) = none) : exec (.setBayProtect tag [i1, i0, b0]) s =
    .next ((takeFrame ⟨0x24#8, tag, [i1, i0, b0]⟩ s).refusedWith ⟨0x24#8, tag, [i1, i0, b0]⟩ .notFound) := by
  refine command_refused (kind := 0x24) hp ht (takeFrame_inIdlePass _ hm) rfl ?_
  simp only [settingOfCode_some h1, decide_eq_true h, takeFrame_mpu, n]
  rfl

theorem exec_setBayProtect_locked {b : Bay} (hb : s.mpu.bay (bigEndian [i1, i0]) = some b) (l : s.mpu.mapLock = true) :
    exec (.setBayProtect tag [i1, i0, b0]) s =
      .next ((takeFrame ⟨0x24#8, tag, [i1, i0, b0]⟩ s).refusedWith ⟨0x24#8, tag, [i1, i0, b0]⟩ .locked) := by
  refine command_refused (kind := 0x24) hp ht (takeFrame_inIdlePass _ hm) rfl ?_
  simp only [settingOfCode_some h1, decide_eq_true h, takeFrame_mpu, hb, l]
  rfl

theorem exec_setBayProtect {b : Bay} (hb : s.mpu.bay (bigEndian [i1, i0]) = some b) (l : s.mpu.mapLock = false) :
    exec (.setBayProtect tag [i1, i0, b0]) s =
      .next (({ takeFrame ⟨0x24#8, tag, [i1, i0, b0]⟩ s with
          mpu := s.mpu.mapBay (bigEndian [i1, i0]) fun b => { b with protect := b0.toNat == 1 } } : State).replied
        ⟨0x24#8, tag, [i1, i0, b0]⟩ .setBayProtect) := by
  refine command_ok (kind := 0x24) (a := (_, [], fun _ => .setBayProtect)) hp ht (takeFrame_inIdlePass _ hm) rfl ?_
  simp only [settingOfCode_some h1, decide_eq_true h, takeFrame_mpu, hb, l]
  rfl

end SetBayProtect

/-! ### MAP_LOCK, MAP_UNLOCK and the key (R84, R85) -/

section MapLock

variable {tag b0 : Byte} (hp : s.powered = true) (hm : s.mode = .idle ∨ s.mode = .pass)
  (ht : s.takes ⟨0x26#8, tag, [b0]⟩ = true)

include hp hm ht

theorem exec_mapLock_range (h : 1 < b0.toNat) : exec (.mapLock tag [b0]) s =
    .next ((takeFrame ⟨0x26#8, tag, [b0]⟩ s).refusedWith ⟨0x26#8, tag, [b0]⟩ .outOfRange) := by
  refine command_refused (kind := 0x26) hp ht (takeFrame_inIdlePass _ hm) rfl ?_
  simp only [bigEndian_one, settingOfCode_none h]

theorem exec_mapLock_locked (h : b0.toNat = 1) (l : s.mpu.mapLock = true) : exec (.mapLock tag [b0]) s =
    .next ((takeFrame ⟨0x26#8, tag, [b0]⟩ s).refusedWith ⟨0x26#8, tag, [b0]⟩ .locked) := by
  refine command_refused (kind := 0x26) hp ht (takeFrame_inIdlePass _ hm) rfl ?_
  simp only [bigEndian_one, h, takeFrame_mpu, l]
  rfl

/-- MAP_LOCK of every bay: the window with every PROTECT set, MAPLOCK, and the number of bays newly protected (R84, log 40). -/
theorem exec_mapLock_all (h : b0.toNat = 1) (l : s.mpu.mapLock = false) :
    let t : State := { takeFrame ⟨0x26#8, tag, [b0]⟩ s with
      mpu := { s.mpu with window := s.mpu.window.map fun b => { b with protect := true }, mapLock := true } }
    exec (.mapLock tag [b0]) s =
      .next (t.replied ⟨0x26#8, tag, [b0]⟩ (.mapLock t.lock (s.mpu.window.filter fun b => !b.protect).length)) := by
  refine command_ok (kind := 0x26) (a := (_, [], fun t => .mapLock t.lock _)) hp ht (takeFrame_inIdlePass _ hm) rfl ?_
  simp only [bigEndian_one, h, takeFrame_mpu, l]
  rfl

theorem exec_mapLock_plain (h : b0.toNat = 0) : exec (.mapLock tag [b0]) s =
    .next (({ takeFrame ⟨0x26#8, tag, [b0]⟩ s with mpu := { s.mpu with mapLock := true } } : State).replied ⟨0x26#8, tag, [b0]⟩
      (.mapLock (if s.pins.service then .soft else .hard) 0)) := by
  rw [← takeFrame_pins ⟨0x26#8, tag, [b0]⟩ s]
  refine command_ok (kind := 0x26) (a := (_, [], fun t => .mapLock t.lock 0)) hp ht (takeFrame_inIdlePass _ hm) rfl ?_
  have plain : settingOfCode b0.toNat = some false := by rw [h]; rfl
  simp only [bigEndian_one, plain, takeFrame_mpu, Bool.and_false, Bool.false_eq_true, if_false]

end MapLock

section MapUnlock

variable {tag : Byte} (hp : s.powered = true) (hm : s.mode = .idle ∨ s.mode = .pass) (ht : s.takes ⟨0x27#8, tag, []⟩ = true)

include hp hm ht

theorem exec_mapUnlock_noKey (k : s.pins.service = false) : exec (.mapUnlock tag []) s =
    .next ((takeFrame ⟨0x27#8, tag, []⟩ s).refusedWith ⟨0x27#8, tag, []⟩ .keyRequired) :=
  command_refused (kind := 0x27) hp ht (takeFrame_inIdlePass _ hm) rfl (if_pos (by rw [takeFrame_pins, k]; rfl))

theorem exec_mapUnlock (k : s.pins.service = true) : exec (.mapUnlock tag []) s =
    .next (({ takeFrame ⟨0x27#8, tag, []⟩ s with mpu := { s.mpu with mapLock := false } } : State).replied ⟨0x27#8, tag, []⟩
      .mapUnlock) := by
  rw [← takeFrame_mpu ⟨0x27#8, tag, []⟩ s]
  exact command_ok (kind := 0x27) (a := (_, [], fun _ => .mapUnlock)) hp ht (takeFrame_inIdlePass _ hm) rfl
    (if_neg (by rw [takeFrame_pins, k]; decide))

end MapUnlock

theorem exec_keyChange (key : Bool) (hp : s.powered = true) :
    exec (.keyChange key) s = .next ({ s with pins := { s.pins with service := key } } : State).finish :=
  live_on (f := fun s => s) (s := { s with pins := { s.pins with service := key } }) hp

theorem lock_of_mapLock (h : s.mpu.mapLock = true) : s.lock ≠ .unlocked := by
  simp only [State.lock, h, if_true]
  split <;> decide

/-- Settles O29: each command's tests in their turn and its change; the lock state is read from MAPLOCK and the key. -/
theorem protectionAndTheMapLock : Obligations.ProtectionAndTheMapLock := by
  intro tag i1 i0 b0 s hp hm index f u g v h w
  refine ⟨fun ht => ⟨exec_setBayProtect_range hp hm ht, exec_setBayProtect_notFound hp hm ht, fun b hi h1 hb =>
      ⟨exec_setBayProtect_locked hp hm ht hi h1 hb, fun l => ?protect⟩⟩,
    fun ht => ⟨exec_mapLock_range hp hm ht, exec_mapLock_locked hp hm ht, fun h1 l => ?lock, exec_mapLock_plain hp hm ht⟩,
    fun ht => ⟨exec_mapUnlock_noKey hp hm ht, exec_mapUnlock hp hm ht⟩, fun key => ⟨exec_keyChange key hp, rfl⟩⟩
  case protect => exact ⟨_, exec_setBayProtect hp hm ht hi h1 hb l, mapBay_spec (fun _ => rfl) hb⟩
  case lock => exact ⟨_, exec_mapLock_all hp hm ht h1 l, rfl, rfl, lock_of_mapLock rfl, reply_mem_tx g _, rfl⟩

end Sys2Proof.Machine

/-! PROOFS. Cursors that cross out of MISS into a bay: what follows a crossing leaves the window and every other cursor's place
(R70, R73, R74). -/

namespace Sys2Proof.Machine

variable {s : State}

/-! ### What a crossing brings about -/

/-- The hand-offs that the exit and the entry of a cursor bring about at the blocks; none of them moves a cursor. -/
def Work.follows : Work → Bool
  | .missTest _ | .barredTest _ | .permission _ | .sprayEntry | .closeRecord | .stage _ | .arbiter => true
  | w => w.inner true

theorem Work.follows_inner {w : Work} (h : w.inner true = true) : w.follows = true := by
  cases w <;> first | rfl | exact h

theorem Work.follows_plain {w : Work} (h : w.follows = true) : plain [w] = true := by
  cases w <;> first | rfl | cases h

theorem follows_works {w : Work} (m : s.mode = .pass) (k : w.follows = true) : ∀ v ∈ (handle w s).2, v.follows = true := by
  have settled : Settled true s := ⟨fun _ => by rw [m]; decide, fun e => nomatch e⟩
  by_cases i : w.inner true = true
  · exact fun v hv => Work.follows_inner (inner_works settled i v hv)
  · refine List.all_eq_true.1 ?_
    cases w
    case missTest | barredTest | sprayEntry | closeRecord | stage | arbiter =>
      simp only [handle, mpuMissTest, mpuBarredTest, spgEntry, spgClose, lgsStage, lgsArbiter]
      repeat' (first | rfl | split)
    case permission t =>
      cases t <;> simp only [handle, wsqDrive, prsPermission, spgDecide] <;> repeat' (first | rfl | split)
    all_goals exact absurd k i

/-- From `s` to `t` the window stays as it is; every cursor but those of `moved` is resolved as it was, and its miss stretch stays
as it was unless it is in MISS. -/
structure KeepsPlaces (moved : List CursorName) (s t : State) : Prop where
  base : SameBase s t
  mode : t.mode = s.mode
  window : t.mpu.window = s.mpu.window
  res : ∀ c ∉ moved, (t.mpu.cursor c).res = (s.mpu.cursor c).res
  stretch : ∀ c ∉ moved, (s.mpu.cursor c).res ≠ .miss → (t.mpu.cursor c).missStretch = (s.mpu.cursor c).missStretch

theorem KeepsPlaces.refl (s : State) : KeepsPlaces [] s s := ⟨.refl s, rfl, rfl, fun _ _ => rfl, fun _ _ _ => rfl⟩

theorem KeepsPlaces.trans {l l' : List CursorName} {t u : State} (a : KeepsPlaces l s t) (b : KeepsPlaces l' t u) :
    KeepsPlaces (l ++ l') s u := by
  have both {c : CursorName} (h : c ∉ l ++ l') : c ∉ l ∧ c ∉ l' := by simpa using h
  refine ⟨a.base.trans b.base, b.mode.trans a.mode, b.window.trans a.window,
    fun c h => (b.res c (both h).2).trans (a.res c (both h).1), fun c h n => ?_⟩
  have n' : (t.mpu.cursor c).res ≠ .miss := by rw [a.res c (both h).1]; exact n
  exact (b.stretch c (both h).2 n').trans (a.stretch c (both h).1 n)

/-- A new value of one cursor. -/
theorem KeepsPlaces.setCursor (s : State) (c : CursorName) (d : Cursor) :
    KeepsPlaces [c] s { s with mpu := s.mpu.setCursor c d } := by
  have other (k : CursorName) (h : k ∉ [c]) : (s.mpu.setCursor c d).cursor k = s.mpu.cursor k := by
    rw [cursor_setCursor, if_neg (by simpa using h)]
  have mapLock : (s.mpu.setCursor c d).mapLock = s.mpu.mapLock := by
    rcases c with _ | k
    · rfl
    · cases k <;> rfl
  exact ⟨by constructor <;> first | rfl | exact mapLock, rfl, setCursor_window .., fun k h => by simp only [other k h],
    fun k h _ => by simp only [other k h]⟩

theorem missTest_keeps (k : Tool) : KeepsPlaces [] s (handle (.missTest k) s).1 := by
  simp only [handle, mpuMissTest]
  split
  · next h =>
    simp only [Bool.and_eq_true, beq_iff_eq] at h
    have keeps := KeepsPlaces.setCursor s (.tool k) { s.mpu.cursor (.tool k) with missStretch := true }
    refine ⟨keeps.base, keeps.mode, keeps.window, fun c _ => ?_, fun c _ n => ?_⟩
    · simp only [cursor_setCursor]
      split
      · next e => rw [e]
      · rfl
    · exact keeps.stretch c (fun e => n (by rw [List.mem_singleton.1 e]; exact h.1.2)) n
  · exact .refl s

/-- What follows a crossing moves no cursor. -/
theorem follows_keeps {w : Work} (k : w.follows = true) : KeepsPlaces [] s (handle w s).1 := by
  by_cases i : w.inner true = true
  · have map := inner_map (s := s) i
    exact ⟨handle_base w s (Work.inner_plain i), inner_mode i, map.window, fun c _ => (map.cursor c).2.1,
      fun c _ _ => (map.cursor c).2.2⟩
  · have leaves (psc : w.changesPsc = false) (mpu : w.changesMpu = false) : KeepsPlaces [] s (handle w s).1 := by
      have same := (handle_leaves w s).mpu mpu
      exact ⟨handle_base w s (Work.follows_plain k), congrArg Psc.mode ((handle_leaves w s).psc psc), by rw [same],
        fun c _ => by rw [same], fun c _ _ => by rw [same]⟩
    cases w
    case missTest t => exact missTest_keeps t
    all_goals first | exact leaves rfl rfl | exact absurd k i

/-- What follows a crossing is carried out, and what waits behind it comes next, every cursor where it was. -/
theorem run_follows {n : Nat} {ws vs : List Work} (m : s.mode = .pass) (k : ∀ w ∈ ws, w.follows = true)
    (o : (run n (ws ++ vs) s).overrun = false) : ∃ n' u, KeepsPlaces [] s u ∧ run n (ws ++ vs) s = run n' vs u := by
  obtain ⟨n', u, ⟨keeps, -⟩, e⟩ := run_then (P := fun u ws => KeepsPlaces [] s u ∧ ∀ w ∈ ws, w.follows = true)
    (fun u w ws ⟨q, all⟩ => by
      obtain ⟨head, rest⟩ := List.forall_mem_cons.1 all
      exact ⟨q.trans (follows_keeps head), fun v hv =>
        (List.mem_append.1 hv).elim (follows_works (q.mode.trans m) head v) (rest v)⟩)
    n ws vs s ⟨.refl s, k⟩ o
  exact ⟨n', u, keeps, e⟩

/-! ### One cursor crosses -/

theorem SameBase.cursorPos {t : State} (h : SameBase s t) (c : CursorName) : t.cursorPos c = s.cursorPos c := by
  have lag : t.lag c = s.lag c := by
    rcases c with _ | k
    · rfl
    · cases k <;> simp only [State.lag, h.profile]
  rw [State.cursorPos, h.rpc, h.odu_eq, lag]
  rfl

theorem resolve_of_not_miss {m : Mpu} {p : Nat} (h : m.resolve p ≠ .miss) : ∃ i, m.resolve p = .bay i := by
  rw [Mpu.resolve] at h ⊢
  split
  · exact ⟨_, rfl⟩
  · next e => rw [e] at h; exact absurd rfl h

theorem setCursor_setCursor (m : Mpu) (n : CursorName) (c d : Cursor) : (m.setCursor n c).setCursor n d = m.setCursor n d := by
  rcases n with _ | k
  · rfl
  · cases k <;> rfl

/-- The exit of a cursor from MISS visits no bay (R74, R81). -/
theorem mpuExit_miss {k : Tool} (p : Nat) (h : (s.mpu.cursor (.tool k)).res = .miss) : ∃ d ws, (∀ w ∈ ws, w.follows = true) ∧
    mpuExit k p s = ({ s with mpu := s.mpu.setCursor (.tool k) d }, ws) := by
  refine ⟨{ s.mpu.cursor (.tool k) with requestMark := false }, (mpuExit k p s).2, List.all_eq_true.1 ?_, ?_⟩
  · cases k <;> rfl
  · simp only [mpuExit, h]

/-- The move of a cursor from MISS onto a bay: its exit, and its entry to come (R73, R74). -/
theorem handle_moveCursor_miss {c : CursorName} {i : Nat} (m : s.mode = .pass) (h : (s.mpu.cursor c).res = .miss)
    (r : s.mpu.resolve (s.cursorPos c) = .bay i) : ∃ d ws, (∀ w ∈ ws, w.follows = true) ∧
      handle (.moveCursor c) s = ({ s with mpu := s.mpu.setCursor c d }, ws ++ [.enter c (.bay i)]) := by
  have crosses : ¬ (!s.inPass || decide (s.mpu.resolve (s.cursorPos c) = (s.mpu.cursor c).res)) = true := by
    simp [inPass_iff.2 m, h, r]
  simp only [handle, mpuMoveCursor]
  rw [if_neg crosses, r]
  rcases c with _ | k
  · exact ⟨_, [], by simp, rfl⟩
  · let d : Cursor := { s.mpu.cursor (.tool k) with pos := some (s.cursorPos (.tool k)) }
    have left : ((s.mpu.setCursor (.tool k) d).cursor (.tool k)).res = .miss := by rw [cursor_setCursor, if_pos rfl]; exact h
    obtain ⟨d', ws, f, e⟩ := mpuExit_miss (s := { s with mpu := s.mpu.setCursor (.tool k) d }) (s.cursorPos (.tool k)) left
    refine ⟨d', ws, f, ?_⟩
    rw [← setCursor_setCursor s.mpu (.tool k) d d']
    simp only [d] at e ⊢
    rw [e]

/-- The entry of a cursor into a bay: resolved to it, its miss stretch ended (R74, R75). -/
theorem handle_enter_bay (c : CursorName) (i : Nat) : ∃ d ws, d.res = .bay i ∧ d.missStretch = false ∧
    (∀ w ∈ ws, w.follows = true) ∧ handle (.enter c (.bay i)) s = ({ s with mpu := s.mpu.setCursor c d }, ws) := by
  refine ⟨{ s.mpu.cursor c with res := .bay i, missStretch := (s.mpu.cursor c).missStretch && !true },
    (handle (.enter c (.bay i)) s).2, rfl, Bool.and_false _, List.all_eq_true.1 ?_, ?_⟩
  · rcases c with _ | k
    · rfl
    · cases k <;> rfl
  · rcases c with _ | k
    · rfl
    · cases k <;> rfl

/-- A cursor has crossed to a resolution, its miss stretch ended. -/
def State.crossed (t : State) (c : CursorName) (r : Resolution) : Prop :=
  (t.mpu.cursor c).res = r ∧ (t.mpu.cursor c).missStretch = false

theorem run_crosses {n : Nat} {c : CursorName} {i : Nat} {vs : List Work} (m : s.mode = .pass) (h : (s.mpu.cursor c).res = .miss)
    (r : s.mpu.resolve (s.cursorPos c) = .bay i) (o : (run n (.moveCursor c :: vs) s).overrun = false) :
    ∃ n' u, KeepsPlaces [c] s u ∧ u.crossed c (.bay i) ∧ run n (.moveCursor c :: vs) s = run n' vs u := by
  obtain ⟨d, ws, f, moved⟩ := handle_moveCursor_miss m h r
  obtain ⟨n1, e1⟩ := run_peel moved o
  rw [List.append_assoc, List.singleton_append] at e1
  rw [e1] at o
  obtain ⟨n2, u, keeps, e2⟩ := run_follows (by exact m) f o
  rw [e2] at o
  obtain ⟨d', ws', res, stretch, f', entered⟩ := handle_enter_bay (s := u) c i
  obtain ⟨n3, e3⟩ := run_peel entered o
  rw [e3] at o
  have um : u.mode = .pass := keeps.mode.trans m
  obtain ⟨n4, v, keeps', e4⟩ := run_follows (by exact um) f' o
  have entry : (u.mpu.setCursor c d').cursor c = d' := by rw [cursor_setCursor, if_pos rfl]
  have inBay : (v.mpu.cursor c).res = .bay i := (keeps'.res c (by simp)).trans (by rw [entry]; exact res)
  have ended : (v.mpu.cursor c).missStretch = false :=
    (keeps'.stretch c (by simp) (by rw [entry, res]; simp)).trans (by rw [entry]; exact stretch)
  have all := ((KeepsPlaces.setCursor s c d).trans keeps).trans ((KeepsPlaces.setCursor u c d').trans keeps')
  refine ⟨n4, v, ⟨all.base, all.mode, all.window, fun k hk => all.res k (by simpa using hk),
    fun k hk => all.stretch k (by simpa using hk)⟩, ⟨inBay, ended⟩, e1.trans (e2.trans (e3.trans e4))⟩

/-! ### Every cursor in its turn -/

/-- Cursors in MISS cross one after the other, each to the bay that holds its place (R70). -/
theorem run_moveCursors {n : Nat} {order : List CursorName} (m : s.mode = .pass) (once : order.Nodup)
    (h : ∀ c ∈ order, (s.mpu.cursor c).res = .miss) (r : ∀ c ∈ order, s.mpu.resolve (s.cursorPos c) ≠ .miss)
    (o : (run n (order.map .moveCursor) s).overrun = false) : KeepsPlaces order s (run n (order.map .moveCursor) s) ∧
      ∀ c ∈ order, (run n (order.map .moveCursor) s).crossed c (s.mpu.resolve (s.cursorPos c)) := by
  induction order generalizing s n with
  | nil =>
    rw [List.map_nil, run_nil]
    exact ⟨.refl s, by simp⟩
  | cons c order ih =>
    obtain ⟨fresh, once⟩ := List.nodup_cons.1 once
    obtain ⟨i, hi⟩ := resolve_of_not_miss (r c (List.mem_cons_self ..))
    rw [List.map_cons] at o ⊢
    obtain ⟨n', u, keeps, ⟨res, stretch⟩, e⟩ := run_crosses m (h c (List.mem_cons_self ..)) hi o
    have other (k : CursorName) (hk : k ∈ order) : k ∉ [c] := fun e => fresh (List.mem_singleton.1 e ▸ hk)
    have place (k : CursorName) : u.mpu.resolve (u.cursorPos k) = s.mpu.resolve (s.cursorPos k) := by
      rw [keeps.base.cursorPos, Mpu.resolve, keeps.window]
      rfl
    rw [e] at o ⊢
    obtain ⟨rest, crossed⟩ := ih (keeps.mode.trans m) once
      (fun k hk => (keeps.res k (other k hk)).trans (h k (List.mem_cons_of_mem _ hk)))
      (fun k hk => by rw [place]; exact r k (List.mem_cons_of_mem _ hk)) o
    refine ⟨keeps.trans rest, fun k hk => ?_⟩
    rcases List.mem_cons.1 hk with rfl | hk
    · rw [hi]
      exact ⟨(rest.res k fresh).trans res, (rest.stretch k fresh (by rw [res]; simp)).trans stretch⟩
    · rw [← place]
      exact crossed k hk

/-! ### The mode meanwhile -/

/-- The hand-offs of a crossing, the moves and entries of cursors among them. -/
def Work.crosses : Work → Bool
  | .moveCursor _ | .enter _ _ => true
  | w => w.follows

theorem Work.crosses_cases {w : Work} (h : w.crosses = true) :
    w.follows = true ∨ (∃ c, w = .moveCursor c) ∨ ∃ c r, w = .enter c r := by
  cases w
  case moveCursor c => exact .inr (.inl ⟨c, rfl⟩)
  case enter c r => exact .inr (.inr ⟨c, r, rfl⟩)
  all_goals exact .inl h

theorem Work.crosses_of_follows {w : Work} (h : w.follows = true) : w.crosses = true := by
  cases w <;> first | rfl | exact h

theorem crosses_works {w : Work} (m : s.mode = .pass) (k : w.crosses = true) : ∀ v ∈ (handle w s).2, v.crosses = true := by
  rcases Work.crosses_cases k with f | ⟨c, rfl⟩ | ⟨c, r, rfl⟩
  · exact fun v hv => Work.crosses_of_follows (follows_works m f v hv)
  · refine List.all_eq_true.1 ?_
    rcases c with _ | t <;> simp only [handle, mpuMoveCursor, mpuExit] <;> (try cases t)
    all_goals repeat' (first | rfl | split)
  · refine List.all_eq_true.1 ?_
    rcases c with _ | t <;> (try cases t) <;> rfl

theorem crosses_mode {w : Work} (k : w.crosses = true) : (handle w s).1.mode = s.mode := by
  rcases Work.crosses_cases k with f | ⟨c, rfl⟩ | ⟨c, r, rfl⟩
  · exact (follows_keeps f).mode
  · exact congrArg Psc.mode ((handle_leaves _ s).psc rfl)
  · exact congrArg Psc.mode ((handle_leaves _ s).psc rfl)

/-- The crossings of cursors, carried to their end or not, leave the pass open. -/
theorem cascade_moveCursors_mode {order : List CursorName} (m : s.mode = .pass) :
    (cascade (order.map .moveCursor) s).mode = .pass := by
  have init : s.mode = .pass ∧ ∀ w ∈ order.map Work.moveCursor, w.crosses = true :=
    ⟨m, List.forall_mem_map.2 fun _ _ => rfl⟩
  have done := run_induct (P := fun u ws => u.mode = .pass ∧ ∀ w ∈ ws, w.crosses = true) (fun u w ws ⟨mode, all⟩ => by
    obtain ⟨head, rest⟩ := List.forall_mem_cons.1 all
    exact ⟨(crosses_mode head).trans mode, fun v hv => (List.mem_append.1 hv).elim (crosses_works mode head v) (rest v)⟩)
    Config.handOffBound _ s init
  rcases done with ⟨mode, -⟩ | ⟨u, vs, ⟨mode, -⟩, e⟩
  · exact mode
  · rw [cascade, e]
    exact mode

end Sys2Proof.Machine

/-! PROOFS. LOAD_BAYS: the room made, the window loaded, the cursors that cross, and the command (R66, R68 to R70, R74). -/

namespace Sys2Proof.Machine

variable {s : State}

/-! ### The room (R69) -/

/-- A bay is passed: by every tool cursor at its end, and by the Spray Gate's record (R69). -/
theorem evictable_iff {b : Bay} : s.evictable b = true ↔
    (∀ tool, ∃ q, (s.mpu.cursor (.tool tool)).pos = some q ∧ b.stop ≤ q) ∧
      ∀ r, s.spg.openRec = some r → r.bay ≠ some b.index := by
  have tools {p : Tool → Prop} : (∀ k, p k) ↔ p .weeder ∧ p .pruner ∧ p .spray :=
    ⟨fun h => ⟨h _, h _, h _⟩, fun ⟨w, r, y⟩ k => by cases k <;> assumption⟩
  simp only [State.evictable, Bool.and_eq_true, Bool.not_eq_true', Option.any_eq_true, decide_eq_true_eq, Option.any_eq_false,
    beq_eq_false_iff_ne, tools, and_assoc, Mpu.cursor]

theorem evict_passed {f : Bay → Bool} {n : Nat} {l : List Bay} (room : n ≤ l.length) (h : ∀ b ∈ l.take n, f b = true) :
    evict f n l = some (l.take n) := by
  induction n generalizing l with
  | zero => rfl
  | succ n ih =>
    cases l with
    | nil => cases room
    | cons b l =>
      obtain ⟨hb, h⟩ := List.forall_mem_cons.1 h
      rw [evict, if_pos hb, ih (Nat.le_of_succ_le_succ room) h]
      rfl

theorem evict_blocked {f : Bay → Bool} {n : Nat} {l : List Bay} (h : ∃ b ∈ l.take n, f b = false) : evict f n l = none := by
  induction n generalizing l with
  | zero => obtain ⟨b, hb, -⟩ := h; cases hb
  | succ n ih =>
    cases l with
    | nil => rfl
    | cons b l =>
      rw [evict]
      split
      · next hb =>
        obtain ⟨c, hc, fc⟩ := h
        rcases List.mem_cons.1 hc with rfl | hc
        · rw [fc] at hb; cases hb
        · rw [ih ⟨c, hc, fc⟩]; rfl
      · rfl

/-! ### The window loaded (R66, R68) -/

theorem length_chunks (k n : Nat) (bs : List Byte) : (chunks k n bs).length ≤ n := by
  induction n generalizing bs with
  | zero => exact Nat.le_refl 0
  | succ n ih =>
    rw [chunks]
    split
    · exact Nat.zero_le _
    · exact Nat.succ_le_succ (ih _)

theorem length_of_mapM {α β : Type} {f : α → Option β} {l : List α} {r : List β} (h : l.mapM f = some r) : r.length = l.length := by
  induction l generalizing r with
  | nil => cases h; rfl
  | cons a l ih =>
    simp only [List.mapM_cons, Option.bind_eq_bind, Option.bind_eq_some_iff] at h
    obtain ⟨b, -, r, hr, h⟩ := h
    cases h
    simp only [List.length_cons, ih hr]

/-- A message carries at most eight bay records. -/
theorem baysOfPayload_few {p : List Byte} {bays : List Bay} (h : baysOfPayload p = some bays) : bays.length ≤ 8 := by
  rw [length_of_mapM h]
  exact length_chunks ..

theorem insertBay_perm (b : Bay) (l : List Bay) : (insertBay b l).Perm (b :: l) := by
  induction l with
  | nil => exact .refl _
  | cons c l ih =>
    rw [insertBay]
    split
    · exact .refl _
    · exact (ih.cons c).trans (.swap ..)

/-- The window with the records of a message in their places. -/
def loadedWindow (bays w : List Bay) : List Bay := bays.foldl (fun w b => insertBay b w) w

theorem loadedWindow_perm (bays w : List Bay) : (loadedWindow bays w).Perm (bays ++ w) := by
  induction bays generalizing w with
  | nil => exact .refl _
  | cons b bays ih => exact (ih (insertBay b w)).trans (((insertBay_perm b w).append_left bays).trans List.perm_middle)

theorem overlaps_of_covers {a b : Bay} {p : Nat} (ha : a.covers p = true) (hb : b.covers p = true) : a.overlaps b = true := by
  simp only [Bay.covers, Bay.overlaps, Bool.and_eq_true, decide_eq_true_eq] at *
  omega

/-- Of records that do not clash no two contain the same map position (R66). -/
theorem eq_of_covers {bays : List Bay} {a b : Bay} {p : Nat} (apart : anyClash bays = false) (ha : a ∈ bays) (hb : b ∈ bays)
    (ca : a.covers p = true) (cb : b.covers p = true) : a = b := by
  induction bays with
  | nil => cases ha
  | cons c bays ih =>
    simp only [anyClash, Bool.or_eq_false_iff, Bay.clashes, List.any_eq_false, Bool.or_eq_true, not_or] at apart
    obtain ⟨clear, apart⟩ := apart
    rcases List.mem_cons.1 ha with rfl | ha' <;> rcases List.mem_cons.1 hb with rfl | hb'
    · rfl
    · exact absurd (overlaps_of_covers ca cb) (clear b hb').1
    · exact absurd (overlaps_of_covers cb ca) (clear a ha').1
    · exact ih apart ha' hb'

theorem resolve_miss_iff {m : Mpu} {p : Nat} : m.resolve p = .miss ↔ ∀ b ∈ m.window, b.covers p = false := by
  rw [Mpu.resolve]
  split
  · next b hb => simpa using ⟨b, List.mem_of_find?_eq_some hb, List.find?_some (p := fun d : Bay => d.covers p) hb⟩
  · next hn => simpa using hn

/-- A map position that no bay contained and a new bay contains resolves to the new bay (R70, R73). -/
theorem resolve_loaded {m : Mpu} {bays : List Bay} {b : Bay} {p n : Nat} (apart : anyClash bays = false)
    (miss : m.resolve p = .miss) (hb : b ∈ bays) (c : b.covers p = true) :
    ({ m with window := loadedWindow bays (m.window.drop n) } : Mpu).resolve p = .bay b.index := by
  have mem {d : Bay} : d ∈ loadedWindow bays (m.window.drop n) ↔ d ∈ bays ++ m.window.drop n := (loadedWindow_perm ..).mem_iff
  rw [Mpu.resolve]
  split
  · next d hd =>
    have cd : d.covers p = true := List.find?_some (p := fun d : Bay => d.covers p) hd
    rcases List.mem_append.1 (mem.1 (List.mem_of_find?_eq_some hd)) with hd | hd
    · rw [eq_of_covers apart hd hb cd c]
    · rw [resolve_miss_iff.1 miss d (List.mem_of_mem_drop hd)] at cd
      cases cd
  · next hn =>
    have := List.find?_eq_none.1 hn b (mem.2 (List.mem_append_left _ hb))
    exact absurd c this

/-! ### The cursors that cross (R70, R74) -/

theorem arrange_perm {α : Type} (n : Nat) (s : State) (l : List α) : (State.arrange n s l).1.Perm l := by
  induction n generalizing s l with
  | zero => exact .refl _
  | succ n ih =>
    match l with
    | [] => exact .refl _
    | [_] => exact .refl _
    | a :: b :: l =>
      let k := Config.choice s.freeCount % (a :: b :: l).length
      have hk : k < (a :: b :: l).length := Nat.mod_lt _ (Nat.succ_pos _)
      have rest := ih (s.choose (a :: b :: l).length).2 ((a :: b :: l).eraseIdx k)
      have e : (State.arrange (n + 1) s (a :: b :: l)).1 = ((a :: b :: l)[k]?).toList ++
          (State.arrange n (s.choose (a :: b :: l).length).2 ((a :: b :: l).eraseIdx k)).1 := rfl
      rw [e, List.getElem?_eq_getElem hk]
      exact (rest.cons _).trans (List.getElem_cons_eraseIdx_perm hk)

/-- The cursors that stand in MISS on an added bay cross into it, in one of their orders (R70, log 9). -/
def State.crossings (s : State) : State :=
  cascade ((s.arrange 4 s.addedCrossings).1.map .moveCursor) (s.arrange 4 s.addedCrossings).2

theorem crossings_eq (s : State) : ∃ (order : List CursorName) (k : Nat), order.Perm s.addedCrossings ∧
    s.crossings = cascade (order.map .moveCursor) { s with freeCount := k } :=
  ⟨_, _, arrange_perm .., by rw [← arrange_eq]; rfl⟩

theorem mem_addedCrossings {c : CursorName} : c ∈ s.addedCrossings ↔
    s.mode = .pass ∧ (s.mpu.cursor c).res = .miss ∧ s.mpu.resolve (s.cursorPos c) ≠ .miss := by
  have every : c ∈ CursorName.all := by
    rcases c with _ | k
    · decide
    · cases k <;> decide
  simp only [State.addedCrossings, List.mem_filter, every, true_and, Bool.and_eq_true, inPass_iff, beq_iff_eq, bne_iff_ne,
    and_assoc]

theorem addedCrossings_nodup (s : State) : s.addedCrossings.Nodup := List.Nodup.filter _ (by decide)

/-- Where no pass is open, or no cursor is in MISS, none crosses. -/
theorem crossings_none (h : s.mode = .idle ∨ ∀ c, (s.mpu.cursor c).res ≠ .miss) : s.crossings = s := by
  have none : s.addedCrossings = [] := by
    refine List.eq_nil_iff_forall_not_mem.2 fun c hc => ?_
    obtain ⟨pass, miss, -⟩ := mem_addedCrossings.1 hc
    rcases h with idle | away
    · rw [idle] at pass; cases pass
    · exact away c miss
  rw [State.crossings, none]
  rfl

theorem crossings_base (s : State) : SameBase s s.crossings := by
  obtain ⟨order, k, -, e⟩ := crossings_eq s
  rw [e]
  exact SameBase.trans (by constructor <;> rfl) (cascade_base _ _ (plain_map _ _ fun _ => rfl))

theorem crossings_mode (m : s.mode = .pass) : s.crossings.mode = .pass := by
  obtain ⟨order, k, -, e⟩ := crossings_eq s
  rw [e]
  exact cascade_moveCursors_mode (by exact m)

/-- With every hand-off done the window is as it was loaded, and each such cursor has crossed. -/
theorem crossings_done (m : s.mode = .pass) (o : s.crossings.overrun = false) : s.crossings.mpu.window = s.mpu.window ∧
    ∀ c, (s.mpu.cursor c).res = .miss → s.mpu.resolve (s.cursorPos c) ≠ .miss →
      s.crossings.crossed c (s.mpu.resolve (s.cursorPos c)) := by
  obtain ⟨order, k, perm, e⟩ := crossings_eq s
  rw [e] at o ⊢
  have crosses {c : CursorName} (h : c ∈ order) := (mem_addedCrossings.1 (perm.mem_iff.1 h)).2
  obtain ⟨keeps, crossed⟩ := run_moveCursors (s := { s with freeCount := k }) m (perm.nodup_iff.2 (addedCrossings_nodup s))
    (fun c h => (crosses h).1) (fun c h => (crosses h).2) o
  exact ⟨keeps.window, fun c miss away => crossed c (perm.mem_iff.2 (mem_addedCrossings.2 ⟨m, miss, away⟩))⟩

/-! ### The command -/

/-- The state with the oldest bays gone and the records of a message loaded (R68, R69). -/
def State.loaded (s : State) (bays : List Bay) (need : Nat) : State :=
  { s with mpu := { s.mpu with window := loadedWindow bays (s.mpu.window.drop need) } }

theorem takeFrame_evictable (f : Frame) : (takeFrame f s).evictable = s.evictable := by
  funext b
  simp only [State.evictable, takeFrame_mpu, takeFrame_spg]

theorem takeFrame_cursorPos (f : Frame) (c : CursorName) : (takeFrame f s).cursorPos c = s.cursorPos c := by
  rw [takeFrame_eq]; rfl

theorem loaded_cursor (bays : List Bay) (n : Nat) (c : CursorName) : (s.loaded bays n).mpu.cursor c = s.mpu.cursor c :=
  window_cursor ..

theorem length_loaded {bays : List Bay} {p : List Byte} (hb : baysOfPayload p = some bays) (w : List Bay) :
    (loadedWindow bays (w.drop (w.length + bays.length - 64))).length = w.length + bays.length - (w.length + bays.length - 64) := by
  have few := baysOfPayload_few hb
  rw [(loadedWindow_perm ..).length_eq, List.length_append, List.length_drop]
  omega

/-- The window stays in rising order when records that clash with nothing are loaded (R66, R68). -/
theorem loadedWindow_order {bays : List Bay} {p : List Byte} (hb : baysOfPayload p = some bays) (apart : anyClash bays = false)
    {w : List Bay} (free : (bays.any fun b => b.clashes w) = false) (n : Nat) (order : w.Pairwise fun a b => a.stop ≤ b.start) :
    (loadedWindow bays (w.drop n)).Pairwise fun a b => a.stop ≤ b.start := by
  refine (loaded_order (baysOfPayload_long hb) apart (fun a ha c hc => ?_) order.drop).1
  simp only [List.any_eq_false, Bay.clashes, Bool.or_eq_true, not_or, Bool.not_eq_true] at free
  exact (free a ha c (List.mem_of_mem_drop hc)).1

section LoadBays

variable {tag : Byte} {p : List Byte} (hp : s.powered = true) (hm : s.mode = .idle ∨ s.mode = .pass) (h11 : 11 ≤ p.length)
  (h88 : p.length ≤ 88) (hl : p.length % 11 = 0) (ht : s.takes ⟨0x21#8, tag, p⟩ = true)

include hp hm h11 h88 hl ht

theorem exec_loadBays_range (hb : baysOfPayload p = none) : exec (.loadBays tag p) s =
    .next ((takeFrame ⟨0x21#8, tag, p⟩ s).refusedWith ⟨0x21#8, tag, p⟩ .outOfRange) := by
  refine command_refused (kind := 0x21) hp ht (takeFrame_inIdlePass _ hm) (by simp [h11, h88, hl]) ?_
  simp only [hb]

variable {bays : List Bay} (hb : baysOfPayload p = some bays)

include hb

theorem exec_loadBays_overlap (h : anyClash bays = true ∨ (bays.any fun b => b.clashes s.mpu.window) = true) :
    exec (.loadBays tag p) s = .next ((takeFrame ⟨0x21#8, tag, p⟩ s).refusedWith ⟨0x21#8, tag, p⟩ .overlap) := by
  refine command_refused (kind := 0x21) hp ht (takeFrame_inIdlePass _ hm) (by simp [h11, h88, hl]) ?_
  simp only [hb, takeFrame_mpu]
  exact if_pos (Bool.or_eq_true _ _ ▸ h)

variable (apart : anyClash bays = false) (free : (bays.any fun b => b.clashes s.mpu.window) = false)

include apart free

theorem exec_loadBays_full
    (h : ∃ b ∈ s.mpu.window.take (s.mpu.window.length + bays.length - 64), s.evictable b = false) : exec (.loadBays tag p) s =
      .next ((takeFrame ⟨0x21#8, tag, p⟩ s).refusedWith ⟨0x21#8, tag, p⟩ .full) := by
  refine command_refused (kind := 0x21) hp ht (takeFrame_inIdlePass _ hm) (by simp [h11, h88, hl]) ?_
  simp only [hb, takeFrame_mpu, takeFrame_evictable, apart, free, Bool.or_self, Bool.false_eq_true, if_false, Config.windowPlaces,
    evict_blocked h]

/-- The message accepted: its records loaded, the cursors that cross, the reply (R68, R69, R70). -/
theorem exec_loadBays
    (h : ∀ b ∈ s.mpu.window.take (s.mpu.window.length + bays.length - 64), s.evictable b = true) :
    let need := s.mpu.window.length + bays.length - 64
    let t := ((takeFrame ⟨0x21#8, tag, p⟩ s).loaded bays need).crossings
    exec (.loadBays tag p) s = .next (t.replied ⟨0x21#8, tag, p⟩
      (.loadBays t.mpu.window.length ((s.mpu.window.take need).map fun b => b.index))) := by
  intro need t
  have room : s.mpu.window.length + bays.length - 64 ≤ s.mpu.window.length := by have := baysOfPayload_few hb; omega
  have clear : (bays.any fun b => b.clashes (takeFrame ⟨0x21#8, tag, p⟩ s).mpu.window) = false := by rw [takeFrame_mpu]; exact free
  have evicted : evict (takeFrame ⟨0x21#8, tag, p⟩ s).evictable ((takeFrame ⟨0x21#8, tag, p⟩ s).mpu.window.length + bays.length -
      Config.windowPlaces) (takeFrame ⟨0x21#8, tag, p⟩ s).mpu.window = some (s.mpu.window.take need) := by
    rw [takeFrame_evictable, takeFrame_mpu]
    exact evict_passed room h
  refine command_ok (kind := 0x21) (a := (_, _, fun t => .loadBays t.mpu.window.length _)) hp ht (takeFrame_inIdlePass _ hm)
    (by simp [h11, h88, hl]) ?_
  simp only [hb, apart, clear, evicted, Bool.or_self, Bool.false_eq_true, if_false, need, List.length_take_of_le room]
  rfl

variable (passed : ∀ b ∈ s.mpu.window.take (s.mpu.window.length + bays.length - 64), s.evictable b = true)

include passed

/-- The message accepted where no cursor crosses (R68, R69). -/
theorem exec_loadBays_still (none : s.mode = .idle ∨ ∀ c, (s.mpu.cursor c).res ≠ .miss) :
    let need := s.mpu.window.length + bays.length - 64
    exec (.loadBays tag p) s = .next
      (({ takeFrame ⟨0x21#8, tag, p⟩ s with
          mpu := { s.mpu with window := loadedWindow bays (s.mpu.window.drop need) } } : State).replied ⟨0x21#8, tag, p⟩
        (.loadBays (s.mpu.window.length + bays.length - need) ((s.mpu.window.take need).map fun b => b.index))) := by
  intro need
  have still : ((takeFrame ⟨0x21#8, tag, p⟩ s).loaded bays need).crossings = (takeFrame ⟨0x21#8, tag, p⟩ s).loaded bays need :=
    crossings_none (none.imp (fun m => (takeFrame_mode ..).trans m) fun away c => by
      rw [loaded_cursor, takeFrame_mpu]; exact away c)
  rw [exec_loadBays hp hm h11 h88 hl ht hb apart free passed, still, State.loaded, takeFrame_mpu, ← length_loaded hb]

/-- The message accepted in a pass: the cursors in MISS on a new bay cross into it (R70, R74). -/
theorem exec_loadBays_crosses (pass : s.mode = .pass) :
    let need := s.mpu.window.length + bays.length - 64
    let count := s.mpu.window.length + bays.length - need
    ∃ t, exec (.loadBays tag p) s = .next t ∧ SameBase (takeFrame ⟨0x21#8, tag, p⟩ s) t ∧ t.mode = .pass ∧
      (t.overrun = false → t.mpu.window = loadedWindow bays (s.mpu.window.drop need) ∧
        TxItem.ok 0x21#8 tag (.loadBays count ((s.mpu.window.take need).map fun b => b.index)) 0 ∈ t.mlk.tx ∧
        ∀ c b, (s.mpu.cursor c).res = .miss → s.mpu.resolve (s.cursorPos c) = .miss → b ∈ bays →
          b.covers (s.cursorPos c) = true → t.crossed c (.bay b.index)) := by
  intro need count
  obtain ⟨v, hv⟩ : ∃ v, v = (takeFrame ⟨0x21#8, tag, p⟩ s).loaded bays need := ⟨_, rfl⟩
  have exec : exec (.loadBays tag p) s = .next (v.crossings.replied ⟨0x21#8, tag, p⟩
      (.loadBays v.crossings.mpu.window.length ((s.mpu.window.take need).map fun b => b.index))) := by
    rw [hv]
    exact exec_loadBays hp hm h11 h88 hl ht hb apart free passed
  have mode : v.mode = .pass := by rw [hv]; exact (takeFrame_mode ..).trans pass
  have mpu : v.mpu = { s.mpu with window := loadedWindow bays (s.mpu.window.drop need) } := by rw [hv, State.loaded, takeFrame_mpu]
  have cursor (c : CursorName) : v.mpu.cursor c = s.mpu.cursor c := by rw [hv, loaded_cursor, takeFrame_mpu]
  have place (c : CursorName) : v.cursorPos c = s.cursorPos c := by rw [hv]; exact takeFrame_cursorPos ..
  have base : SameBase (takeFrame ⟨0x21#8, tag, p⟩ s) v.crossings :=
    SameBase.trans (by rw [hv]; constructor <;> rfl) (crossings_base v)
  have still := crossings_mode mode
  have done := crossings_done mode
  generalize v.crossings = t at exec base still done
  refine ⟨_, exec, base.replied .., still, fun o => ?_⟩
  obtain ⟨kept, crossed⟩ := done o
  have window : t.mpu.window = loadedWindow bays (s.mpu.window.drop need) := by rw [kept, mpu]
  have count_eq : t.mpu.window.length = count := by rw [window]; exact length_loaded hb _
  refine ⟨window, count_eq ▸ reply_mem_tx (s := t) ⟨0x21#8, tag, p⟩ _, fun c b miss old hn covers => ?_⟩
  have new : v.mpu.resolve (v.cursorPos c) = .bay b.index := by
    rw [place, mpu]
    exact resolve_loaded apart old hn covers
  rw [← new]
  exact crossed c (by rw [cursor]; exact miss) (by rw [new]; exact Resolution.noConfusion)

end LoadBays

/-- Settles O26: each test in its turn; the window as loaded where no cursor crosses; the crossings in a pass. -/
theorem loadedBaysEnterTheWindow : Obligations.LoadedBaysEnterTheWindow := by
  intro tag p s hp hm h11 h88 hl f ht u
  refine ⟨exec_loadBays_range hp hm h11 h88 hl ht, fun bays hb => ⟨exec_loadBays_overlap hp hm h11 h88 hl ht hb, ?accepted⟩⟩
  intro apart free need gone count passed
  have passed_iff (b : Bay) : s.evictable b = true ↔ passed b := evictable_iff
  refine ⟨fun ⟨b, hg, hn⟩ => ?full, fun all => ?loaded⟩
  case full =>
    exact exec_loadBays_full hp hm h11 h88 hl ht hb apart free
      ⟨b, hg, Bool.eq_false_iff.2 fun e => hn ((passed_iff b).1 e)⟩
  case loaded =>
    have room : ∀ b ∈ gone, s.evictable b = true := fun b hg => (passed_iff b).2 (all b hg)
    refine ⟨fun none => ⟨_, exec_loadBays_still hp hm h11 h88 hl ht hb apart free room none, loadedWindow_perm ..,
      loadedWindow_order hb apart free need⟩, fun pass => ?_⟩
    obtain ⟨t, exec, base, mode, done⟩ := exec_loadBays_crosses hp hm h11 h88 hl ht hb apart free room pass
    refine ⟨t, exec, base, mode, fun o => ?_⟩
    obtain ⟨window, reply, crossed⟩ := done o
    exact ⟨window ▸ loadedWindow_perm .., reply, crossed⟩

end Sys2Proof.Machine

/-! PROOFS. PARK and WAKE (R106, R107, R207). -/

namespace Sys2Proof.Machine

variable {s : State}

section ParkWake

variable {tag : Byte}

theorem atRest_iff : s.atRest = true ↔ s.wsq.arm = some .retracted ∧ s.prs.head.state ≠ .moving := by
  simp [State.atRest]

theorem takeFrame_atRest (f : Frame) : (takeFrame f s).atRest = s.atRest := by rw [takeFrame_eq]; rfl

theorem cascade_decide_off (h : s.inPass = false) :
    cascade [.decide] s = { s with spg := { s.spg with sections := Six.all (.closed .notRunning) } } :=
  (run_leaf (handle_decide_off s (by rw [(not_inPass h).1]; rfl))).trans (run_nil ..)

theorem exec_park_busy (hp : s.powered = true) (hm : s.mode = .idle) (ht : s.takes ⟨0x03#8, tag, []⟩ = true)
    (h : s.lgs.profilePending = true ∨ s.atRest = false) :
    exec (.park tag []) s = .next ((takeFrame ⟨0x03#8, tag, []⟩ s).refusedWith ⟨0x03#8, tag, []⟩ .busy) := by
  refine command_refused (kind := 0x03) hp ht (takeFrame_inIdle _ hm) rfl (if_pos ?_)
  rw [takeFrame_lgs, takeFrame_atRest, Bool.or_eq_true, Bool.not_eq_true']
  exact h

/-- The mode alone changed, as PARK and WAKE change it (R106, R107). -/
def State.setMode (s : State) (m : Mode) : State := { s with psc := { s.psc with mode := m } }

/-- What the reply of WAKE carries (R107). -/
def State.wakeReply (s : State) : OkResult := .wake s.mode s.stu.band s.permit s.sEff

theorem exec_park (hp : s.powered = true) (hm : s.mode = .idle) (ht : s.takes ⟨0x03#8, tag, []⟩ = true)
    (w : s.lgs.profilePending = false) (r : s.atRest = true) : exec (.park tag []) s =
    .next (({ takeFrame ⟨0x03#8, tag, []⟩ s with
      psc := { s.psc with mode := .parked }
      spg := { s.spg with sections := Six.all (.closed .notRunning) } } : State).replied ⟨0x03#8, tag, []⟩ (.park .parked)) := by
  let u := takeFrame ⟨0x03#8, tag, []⟩ s
  let parked := u.setMode .parked
  have free : ¬ (u.lgs.profilePending || !u.atRest) = true := by simp [u, takeFrame_atRest, w, r]
  have run : exec (.park tag []) s = .next ((cascade [.decide] parked).replied _ (.park (cascade [.decide] parked).mode)) :=
    command_ok (kind := 0x03) (a := (parked, [.decide], fun t => .park t.mode)) hp ht (takeFrame_inIdle _ hm) rfl (if_neg free)
  rw [run, cascade_decide_off (s := parked) rfl]
  simp only [parked, u, State.setMode, takeFrame_psc, takeFrame_spg]
  rfl

theorem exec_wake (hp : s.powered = true) (hm : s.mode = .parked) (ht : s.takes ⟨0x04#8, tag, []⟩ = true) :
    exec (.wake tag []) s =
    .next (({ takeFrame ⟨0x04#8, tag, []⟩ s with
      psc := { s.psc with mode := .idle }
      spg := { s.spg with sections := Six.all (.closed .notRunning) } } : State).replied ⟨0x04#8, tag, []⟩
        (.wake .idle s.stu.band (!s.stu.band.stops && !(takeFrame ⟨0x04#8, tag, []⟩ s).mlk.expired) s.sEff)) := by
  let awake := (takeFrame ⟨0x04#8, tag, []⟩ s).setMode .idle
  have run : exec (.wake tag []) s = .next ((cascade [.decide] awake).replied _ (cascade [.decide] awake).wakeReply) :=
    command_ok (kind := 0x04) (a := (awake, [.decide], State.wakeReply)) hp ht (beq_iff_eq.2 ((takeFrame_mode ..).trans hm)) rfl rfl
  rw [run, cascade_decide_off (s := awake) rfl]
  simp only [State.wakeReply, awake, State.setMode, takeFrame_psc, takeFrame_spg, State.permit, State.mode, State.sEff,
    takeFrame_stu]
  rfl

end ParkWake

/-- Settles O35: the test of PARK; with no pass open a decision closes every section. -/
theorem parkAndWake : Obligations.ParkAndWake := by
  intro tag s hp f u g v
  refine ⟨fun ht hm => ⟨fun busy => exec_park_busy hp hm ht ?_, fun a h w => exec_park hp hm ht w (atRest_iff.2 ⟨a, h⟩)⟩,
    fun ht hm => exec_wake hp hm ht⟩
  rcases busy with arm | head | pending
  · exact .inr (Bool.eq_false_iff.2 fun r => arm (atRest_iff.1 r).1)
  · exact .inr (Bool.eq_false_iff.2 fun r => (atRest_iff.1 r).2 head)
  · exact .inl pending

end Sys2Proof.Machine

/-! PROOFS. SILENCE_EXPIRY, SET_TIME and SECONDS_TICK; what the hand-offs leave of the link (R98, R203, R204). -/

namespace Sys2Proof.Machine

variable {s : State}

/-! ### The silence timer (R98, R203) -/

/-- The state at the expiry of the silence timer, `due` its time. -/
def State.silent (s : State) (due : Nat) : State := { s.advance due with mlk := { s.mlk with expired := true } }

/-- What HOST_SILENCE carries, the time on the clock of the expiry (R203). -/
def State.silenceDetail (s : State) (start : Nat) : Detail :=
  .hostSilence s.mode (max s.time.now (start + s.profile.hostSilence.toNat) - start)

theorem exec_silenceExpiry {start : Nat} (hp : s.powered = true) (hs : s.mlk.silenceFrom = some start)
    (n : s.mlk.expired = false) : exec .silenceExpiry s =
      .next (cascade (if s.drives then [.occur .hostSilence (s.silenceDetail start), .suspend .hostSilence] else [])
        (s.silent (start + s.profile.hostSilence.toNat))).finish := by
  simp only [exec, execSilenceExpiry]
  rw [live_on hp, hs]
  simp only [n]
  rfl

theorem exec_silenceExpiry_again {start : Nat} (hp : s.powered = true) (hs : s.mlk.silenceFrom = some start)
    (e : s.mlk.expired = true) : exec .silenceExpiry s = .next s.finish := by
  simp only [exec, execSilenceExpiry]
  rw [live_on hp, hs]
  simp only [e]
  rfl

theorem handle_occur_hostSilence (d : Detail) : handle (.occur .hostSilence d) s = (s.raise .hostSilence d, []) :=
  handle_occur (.inr rfl)

theorem raise_mode (f : Flag) (d : Detail) : (s.raise f d).mode = s.mode := congrArg Psc.mode (State.raise_psc ..)

theorem cascade_silence_idle (d : Detail) (m : s.mode = .idle) :
    cascade [.occur .hostSilence d, .suspend .hostSilence] s = s.raise .hostSilence d := by
  have idle : (s.raise .hostSilence d).inPass = false := not_inPass_of_idle ((raise_mode ..).trans m)
  exact (run_leaf (handle_occur_hostSilence d)).trans ((run_leaf (handle_suspend_idle _ _ idle)).trans (run_nil ..))

theorem notice_expired (m : Mlk) (f : Flag) (c : FlagClass) (d : Detail) : (m.notice f c d).expired = m.expired := by
  unfold Mlk.notice
  split <;> rfl

theorem notices_expired (l : List (Flag × FlagClass × Detail)) (m : Mlk) : (m.notices l).expired = m.expired := by
  induction l generalizing m with
  | nil => rfl
  | cons n l ih => exact (ih (m.notice n.1 n.2.1 n.2.2)).trans (notice_expired ..)

theorem raise_expired (f : Flag) (d : Detail) : (s.raise f d).mlk.expired = s.mlk.expired := by
  simp only [State.raise]
  split
  · rfl
  · split
    · rfl
    · exact notice_expired ..

/-- The hand-offs that can change the link. -/
def Work.changesMlk : Work → Bool
  | .occur _ _ | .majorFlag _ _ _ | .startEnd | .frameIn _ => true
  | _ => false

/-- What changes the Spray Gate alone leaves the link. -/
theorem mlk_of_spg {s t : State} (h : { t with spg := s.spg } = s) : t.mlk = s.mlk := by rw [← h]

/-- A hand-off of two branches leaves the link as each of them does. -/
theorem ite_mlk {c : Prop} [Decidable c] {a b : State × List Work} {m : Mlk} (ha : a.1.mlk = m) (hb : b.1.mlk = m) :
    (if c then a else b).1.mlk = m := by split <;> assumption

/-- Every other hand-off leaves the link as it is. -/
theorem handle_mlk {w : Work} (h : w.changesMlk = false) : (handle w s).1.mlk = s.mlk := by
  cases w
  case answer r a =>
    cases r <;> cases a <;> dsimp only [handle, wsqAnswer, prsAnswer]
    all_goals
      repeat' (first | rfl | refine ite_mlk ?_ ?_ | split)
  case permission t =>
    cases t <;> dsimp only [handle, wsqDrive, prsPermission, spgDecide]
    all_goals
      repeat' (first | rfl | refine ite_mlk ?_ ?_ | split)
  case mapMove =>
    dsimp only [handle, mpuMove]
    rw [arrange_eq]
  case issue p =>
    dsimp only [handle, prsIssue, State.setHead, State.sendTargets]
    repeat' (first | rfl | refine ite_mlk ?_ ?_ | split)
  case takeOff =>
    dsimp only [handle, spgTakeOff]
    split
    · next hc => exact mlk_of_spg (charge_spec hc).1
    · rfl
  case seek =>
    dsimp only [handle, spgSeek, spgGrant]
    repeat' split
    all_goals first
      | rfl
      | exact mlk_of_spg (congrArg (fun u : State => { u with spg := s.spg }) (chargePending_spec _ _).1)
  case occur | majorFlag | startEnd | frameIn => cases h
  all_goals
    dsimp only [handle, cduMajor, cduLockout, stuCompute, stuTakeResult, stuCeiling, stuEvalWaiting, stuEvaluate,
      stuTrip, stuBandGiven, stuRecover, stuReload, stuTankReport, stuItem, stuAsk, stuWithdraw, stuMoveStarted, stuSensorFault,
      stuProfile, oduRpcChanged, oduReverseTest, ttrClearWeeder, ttrPurge, ttrEnd, ttrDrop, mpuMoveCursor, mpuExit, mpuEnter,
      mpuMissTest, mpuBarredTest, mpuActQuery, mpuEnd, pscSuspend, pscEnd, pscDropFields, wsqDrive, wsqFire, wsqFireEnd,
      wsqImmediate, wsqLift, wsqQueueTrunk, wsqQueueFull, wsqArm, wsqWithheld, wsqTrip, wsqStop, wsqEnd, wsqOverflow, wsqRebuild,
      prsRest, prsHeadDone, prsConsider, prsStartRun, prsEnterPhase, prsPhaseEnd, prsEndRun, prsOutcome, prsSkipAll,
      prsHaltDone, prsTrip, prsFault, prsStop, prsResume, prsEnd, prsTrunkLost,
      spgSeekForFlow, spgDecide, spgEntry, spgClose, spgStop, spgRoomReport, lgsStage, lgsArbiter, lgsHalt,
      lgsNearFull, lgsStartReports, mlkStartEndTest, mlkDiscard]
    repeat' (first | rfl | refine ite_mlk ?_ ?_ | split)

/-- A frame received alone ends the expired state of the silence (R203). -/
theorem handle_expired {w : Work} (h : plain [w] = true) : (handle w s).1.mlk.expired = s.mlk.expired := by
  cases hc : w.changesMlk with
  | false => rw [handle_mlk hc]
  | true =>
    cases w
    case occur f d => exact raise_expired f d
    case majorFlag c o m =>
      simp only [handle, cduMajorFlag]
      repeat' split
      all_goals exact raise_expired ..
    case startEnd => exact notices_expired ..
    case frameIn => cases h
    all_goals cases hc

/-- A suspension leaves no pass RUNNING (R95). -/
theorem handle_suspend_running (c : Suspension) : (handle (.suspend c) s).1.running = false := by
  cases r : s.running with
  | false => exact (handle_opensNothing _ s).running r
  | true =>
    obtain ⟨m, p, hp, h⟩ : s.inPass = true ∧ ∃ p, s.psc.pass = some p ∧ p.suspension.isNone = true := by
      simpa [State.running, Option.any_eq_true] using r
    simp [handle, pscSuspend, m, hp, h, State.running]

/-- The expiry in a pass: the flag set, then the suspension; whatever follows, the pass stands and the silence lasts (R98). -/
theorem cascade_silence_pass (d : Detail) (e : s.mlk.expired = true) :
    let t := cascade [.occur .hostSilence d, .suspend .hostSilence] s
    t.mlk.expired = true ∧ t.running = false ∧ (t.cdu.flags.get .hostSilence).isSet = true := by
  let u := s.raise .hostSilence d
  have start : cascade [.occur .hostSilence d, .suspend .hostSilence] s = run _ _ (handle (.suspend .hostSilence) u).1 :=
    (run_leaf (n := 999999999999) (handle_occur_hostSilence d)).trans (run_cons 999999999998 ..)
  have works : plain ((handle (.suspend .hostSilence) u).2 ++ []) = true := by
    rw [List.append_nil]
    exact handle_plain _ u rfl
  have set : (u.cdu.flags.get .hostSilence).isSet = true := by rw [State.raise_get_same]; rfl
  rw [start]
  refine ⟨?expired, ?running, run_isSet _ _ _ (handle_isSet _ _ set)⟩
  case expired =>
    refine run_plain (P := fun t => t.mlk.expired = true) (fun w t k q => (handle_expired k).trans q) (fun _ q => q) _ works ?_
    exact (handle_expired rfl).trans ((raise_expired ..).trans e)
  case running =>
    exact run_keeps (P := fun t => t.running = false) (fun w t q => (handle_opensNothing w t).running q) (fun _ q => q) _ _ _
      (handle_suspend_running _)

/-! ### The clock of seconds (R204) -/

/-- The counter set, and its second begun (R204, log 3). -/
def State.clockSet (s : State) (n : Nat) : State :=
  { s with mlk := { s.mlk with time := some n }, time := { s.time with secondAt := s.time.now } }

theorem exec_setTime {tag : Byte} {bytes : List Byte} (hp : s.powered = true) (hm : s.mode = .idle ∨ s.mode = .pass)
    (hl : bytes.length = 4) (ht : s.takes ⟨0x05#8, tag, bytes⟩ = true) : exec (.setTime tag bytes) s =
      .next (({ takeFrame ⟨0x05#8, tag, bytes⟩ s with
        mlk := { (takeFrame ⟨0x05#8, tag, bytes⟩ s).mlk with time := some (bigEndian bytes) }
        time := { s.time with secondAt := s.time.now } } : State).replied ⟨0x05#8, tag, bytes⟩ (.setTime (bigEndian bytes))) := by
  have run : exec (.setTime tag bytes) s =
      .next (((takeFrame ⟨0x05#8, tag, bytes⟩ s).clockSet (bigEndian bytes)).replied _ (.setTime (bigEndian bytes))) :=
    command_ok (kind := 0x05) (a := (State.clockSet _ _, [], fun _ => .setTime (bigEndian bytes))) hp ht
      (takeFrame_inIdlePass _ hm) (beq_iff_eq.2 hl) rfl
  rw [run]
  simp only [State.clockSet, takeFrame_time]

/-- A counter of 32 bits that rises by 1 and wraps (R204). -/
theorem wrap32 (t : Nat) : (t + 1) % (Config.count32Max + 1) = if t = 4294967295 then 0 else (t + 1) % 4294967296 := by
  split
  · next h => rw [h]; rfl
  · rfl

theorem exec_secondsTick (hp : s.powered = true) : exec .secondsTick s =
    .next ({ s with time := { s.time with now := max s.time.now (s.time.secondAt + 1000),
                                          secondAt := max s.time.now (s.time.secondAt + 1000) }
                    mlk := { s.mlk with time := s.mlk.time.map fun t => if t = 4294967295 then 0 else (t + 1) % 4294967296 } } :
      State).finish := by
  simp only [exec, execSecondsTick]
  rw [live_on hp]
  simp only [State.advance_time, State.advance_mlk, wrap32]
  rfl

/-- Settles O51: one expiry for each silence, with its condition where the part drives; the clock set and carried on. -/
theorem silenceAndTime : Obligations.SilenceAndTime := by
  refine ⟨fun s start hp hs => ?silence, ?time, fun s hp => exec_secondsTick hp⟩
  case time =>
    intro tag b3 b2 b1 b0 s hp hm f ht u
    exact exec_setTime hp hm rfl ht
  intro due
  refine ⟨exec_silenceExpiry_again hp hs, fun n m => ?off, fun n m _ => ?idle, fun n m => ?pass⟩
  all_goals rw [exec_silenceExpiry hp hs n]
  case off =>
    rw [drives_off (m.elim (.inr ∘ .inl) fun m => m.elim (.inr ∘ .inr) .inl)]
    rfl
  case idle =>
    rw [drives_iff.2 (.inl m), if_pos rfl, cascade_silence_idle (s := s.silent _) _ m, State.silenceDetail, m]
    rfl
  case pass =>
    rw [drives_iff.2 (.inr m), if_pos rfl]
    obtain ⟨expired, running, set⟩ := cascade_silence_pass (s := s.silent due) (s.silenceDetail start) rfl
    refine ⟨_, rfl, expired, ?_, running, set⟩
    rw [State.finish_out]
    show State.permit _ = false
    rw [permit_eq, expired, Bool.not_true, Bool.and_false]

end Sys2Proof.Machine

/-! PROOFS. PASS_HOLD: a RUNNING pass suspended for HOST, or for TRIP where the band stops; a SUSPENDED one with its cause taken
over (R95, R97). -/

namespace Sys2Proof.Machine

variable {s : State}

/-- The record of a RUNNING pass as a suspension leaves it, at the position `r`. -/
def PassRecord.suspendedBy (p : PassRecord) (c : Suspension) (r : Nat) : PassRecord :=
  { p with suspension := some c, suspendedAt := some r, suspensions := bump 65535 p.suspensions }

theorem handle_suspend_runs {p : PassRecord} (c : Suspension) (m : s.mode = .pass) (h : s.psc.pass = some p)
    (r : p.suspension = none) : handle (.suspend c) s =
      (s.setPass (p.suspendedBy c s.odu.rpc), [.weederStop, .prunerStop, .sprayStop]) := by
  simp only [handle, pscSuspend, inPass_iff.2 m, h, r, Option.isNone_none, if_true]
  rfl

theorem handle_suspend_replaces {p : PassRecord} {c : Suspension} (m : s.mode = .pass) (h : s.psc.pass = some p)
    (n : p.suspension ≠ none) (k : c.replaces = true) :
    handle (.suspend c) s = (s.setPass { p with suspension := some c }, []) := by
  simp only [handle, pscSuspend, inPass_iff.2 m, h, Option.isNone_eq_false_iff.2 (Option.isSome_iff_ne_none.2 n), k,
    Bool.false_eq_true, if_false, if_true]

/-- A trip suspends for TRIP alone (R31). -/
theorem handle_trip_suspends_cause {c : TripCause} {d : Suspension} (h : Work.suspend d ∈ (handle (.trip c) s).2) : d = .trip := by
  rcases handle_trip_cases (s := s) c with e | ⟨r, k, n, -, -, e⟩
  · rw [e] at h; cases h
  · rw [e] at h
    simp only [State.tripWorks, List.mem_append] at h
    repeat' split at h
    all_goals simpa using h

/-- The hand-offs of a hold, from the suspension of the pass `p` at `r` on: its cause is HOST, or TRIP where the band stops. -/
structure Holds (p : PassRecord) (r : Nat) (s : State) (ws : List Work) : Prop where
  mode : s.mode = .pass
  works : ∀ w ∈ ws, w.inner true = true
  pass : ∃ c, s.psc.pass = some (p.suspendedBy c r) ∧ (c = .host ∨ c = .trip ∧ s.stu.band.stops = true)
  trips : ∀ c, Work.suspend c ∈ ws → c = .trip ∧ s.stu.band.stops = true

theorem Holds.step {p : PassRecord} {r : Nat} {w : Work} {ws : List Work} (h : Holds p r s (w :: ws)) :
    Holds p r (handle w s).1 ((handle w s).2 ++ ws) := by
  obtain ⟨mode, works, ⟨c, pass, cause⟩, trips⟩ := h
  obtain ⟨head, rest⟩ := List.forall_mem_cons.1 works
  have settled : Settled true s := ⟨fun _ => by rw [mode]; decide, fun e => nomatch e⟩
  have stopped (b : s.stu.band.stops = true) : (handle w s).1.stu.band.stops = true := by
    rw [(handle_stopped (Work.inner_plain head) b).1]; exact b
  refine ⟨(inner_mode head).trans mode, fun v hv => ?works, ?pass, fun d hd => ?trips⟩
  case works => exact (List.mem_append.1 hv).elim (inner_works settled head v) (rest v)
  case pass =>
    by_cases sus : ∃ d, w = .suspend d
    · obtain ⟨d, rfl⟩ := sus
      obtain ⟨rfl, b⟩ := trips d (List.mem_cons_self ..)
      refine ⟨.trip, ?_, .inr ⟨rfl, stopped b⟩⟩
      rw [handle_suspend_replaces mode pass (by simp [PassRecord.suspendedBy]) rfl]
      rfl
    · exact ⟨c, by rw [inner_psc head fun d e => sus ⟨d, e⟩]; exact pass, cause.imp_right fun ⟨e, b⟩ => ⟨e, stopped b⟩⟩
  case trips =>
    rcases List.mem_append.1 hd with hd | hd
    · have o := origin_of_mem hd
      cases w
      case trip => exact ⟨handle_trip_suspends_cause hd, handle_trip_suspends hd⟩
      all_goals first | exact Bool.noConfusion head | exact Bool.noConfusion o
    · obtain ⟨e, b⟩ := trips d (List.mem_cons_of_mem _ hd)
      exact ⟨e, stopped b⟩

theorem cascade_holds {p : PassRecord} (m : s.mode = .pass) (h : s.psc.pass = some p) (r : p.suspension = none) :
    Holds p s.odu.rpc (cascade [.suspend .host] s) [] := by
  have init : Holds p s.odu.rpc (s.setPass (p.suspendedBy .host s.odu.rpc)) [.weederStop, .prunerStop, .sprayStop] :=
    ⟨m, List.all_eq_true.1 rfl, ⟨.host, rfl, .inl rfl⟩, by simp⟩
  have start : cascade [.suspend .host] s = run 999999999999 [.weederStop, .prunerStop, .sprayStop] _ :=
    run_one (handle_suspend_runs .host m h r)
  rw [start]
  rcases run_induct (P := Holds p s.odu.rpc) (fun u w ws q => q.step) _ _ _ init with q | ⟨u, vs, q, e⟩
  · exact q
  · rw [e]
    exact ⟨q.mode, by simp, q.pass, by simp⟩

/-- What the reply of a hold carries (R97). -/
def State.holdReply (s : State) : OkResult :=
  .passHold s.running (s.psc.pass.bind fun p => p.suspension) ((s.psc.pass.map fun p => p.suspensions).getD 0)

theorem holdReply_suspended {p : PassRecord} (m : s.mode = .pass) (h : s.psc.pass = some p) (n : p.suspension ≠ none) :
    s.holdReply = .passHold false p.suspension p.suspensions := by
  rw [State.holdReply, running_of_pass m h, Option.isNone_eq_false_iff.2 (Option.isSome_iff_ne_none.2 n), h]
  rfl

theorem exec_passHold {tag : Byte} (hp : s.powered = true) (hm : s.mode = .pass) (ht : s.takes ⟨0x31#8, tag, []⟩ = true) :
    exec (.passHold tag []) s = .next ((cascade [.suspend .host] (takeFrame ⟨0x31#8, tag, []⟩ s)).replied ⟨0x31#8, tag, []⟩
      (cascade [.suspend .host] (takeFrame ⟨0x31#8, tag, []⟩ s)).holdReply) :=
  command_ok (kind := 0x31) (a := (takeFrame _ s, [.suspend .host], State.holdReply)) hp ht
    ((takeFrame_inPass _ _).trans (inPass_iff.2 hm)) rfl rfl

/-- Settles O31: a SUSPENDED pass takes the cause over; a RUNNING one is suspended, and a trip alone takes the cause over. -/
theorem passHold : Obligations.PassHold := by
  intro tag p s hp hm hpass f ht u
  have exec := exec_passHold hp hm ht
  have um : u.mode = .pass := (takeFrame_mode ..).trans hm
  have up : u.psc.pass = some p := by rw [takeFrame_psc]; exact hpass
  refine ⟨fun n => ?suspended, fun r => ?running⟩
  case suspended =>
    have held : cascade [.suspend .host] u = u.setPass { p with suspension := some .host } :=
      (run_leaf (handle_suspend_replaces um up n rfl)).trans (run_nil ..)
    rw [exec, held, holdReply_suspended (s := u.setPass _) um rfl (by simp)]
    simp only [State.setPass, u, takeFrame_psc]
    rfl
  case running =>
    obtain ⟨mode, -, ⟨c, pass, cause⟩, -⟩ := cascade_holds um up r
    have base := cascade_base [.suspend .host] u rfl
    generalize cascade [.suspend .host] u = t at exec mode pass cause base
    have reply : t.holdReply = .passHold false (some c) (bump 65535 p.suspensions) :=
      holdReply_suspended mode pass (by simp [PassRecord.suspendedBy])
    have rpc : u.odu.rpc = s.odu.rpc := congrArg Odu.rpc (takeFrame_odu ..)
    rw [reply] at exec
    refine ⟨_, _, exec, base.replied .., mode, running_of_pass (s := t) mode pass, pass, ?_, fun b => ?_, congrArg some rpc, rfl,
      rfl, rfl, reply_mem_tx f _⟩
    · exact cause.imp (congrArg some) fun ⟨e, _⟩ => congrArg some e
    · rcases cause with e | ⟨-, stops⟩
      · exact congrArg some e
      · rw [show t.stu.band.stops = false from b] at stops
        cases stops

end Sys2Proof.Machine

/-! PROOFS. TOOL_SET: the hand-offs of a change of tools, the pass they leave, the open record they close, keep or open (R102,
R103, R128, R149, R165, R170). -/

namespace Sys2Proof.Machine

variable {s : State}

/-! ### What a change of tools brings about -/

/-- The hand-offs of a change of tools; those that drop SPRAY's fields where `drops`. -/
def Work.retools (drops : Bool) : Work → Bool
  | .dropSprayFields => drops
  | .trunksDrop _ | .prunerEnd true | .enter (.tool _) _ => true
  | w => w.follows

theorem Work.retools_of_follows {d : Bool} {w : Work} (h : w.follows = true) : w.retools d = true := by
  cases w <;> first | exact h | rfl | exact Bool.noConfusion h

theorem Work.retools_plain {d : Bool} {w : Work} (h : w.retools d = true) : plain [w] = true := by
  cases w <;> first | rfl | exact Bool.noConfusion h

theorem retools_works {d : Bool} {w : Work} (m : s.mode = .pass) (k : w.retools d = true) :
    ∀ v ∈ (handle w s).2, v.follows = true := by
  by_cases f : w.follows = true
  · exact follows_works m f
  · refine List.all_eq_true.1 ?_
    cases w
    case dropSprayFields | trunksDrop =>
      simp only [handle, pscDropFields, ttrDrop]
      repeat' (first | rfl | split)
    case prunerEnd dropped =>
      cases dropped
      · exact absurd k f
      · rfl
    case enter c r =>
      rcases c with _ | t
      · exact absurd k f
      · cases t <;> rfl
    all_goals exact absurd k f

/-! ### The pass meanwhile -/

/-- What a change of tools leaves of the pass record once it stands: its suspension apart, everything but the spray fields that
SPRAY takes with it where it is dropped. -/
structure SamePass (drops : Bool) (p q : PassRecord) : Prop where
  row : q.row = p.row
  passId : q.passId = p.passId
  start : q.start = p.start
  tools : q.tools = p.tools
  rehearsal : q.rehearsal = p.rehearsal
  spray : drops = false → q.spray = p.spray

theorem SamePass.refl (d : Bool) (p : PassRecord) : SamePass d p p := ⟨rfl, rfl, rfl, rfl, rfl, fun _ => rfl⟩

theorem SamePass.trans {d : Bool} {p q r : PassRecord} (a : SamePass d p q) (b : SamePass d q r) : SamePass d p r where
  row := b.row.trans a.row
  passId := b.passId.trans a.passId
  start := b.start.trans a.start
  tools := b.tools.trans a.tools
  rehearsal := b.rehearsal.trans a.rehearsal
  spray h := (b.spray h).trans (a.spray h)

/-- The pass stands open, the same but for its suspension and, where `drops`, the spray fields. -/
structure PassStands (drops : Bool) (p : PassRecord) (s : State) : Prop where
  mode : s.mode = .pass
  pass : ∃ q, s.psc.pass = some q ∧ SamePass drops p q

theorem PassStands.of_psc {d : Bool} {p : PassRecord} {t : State} (h : PassStands d p s) (e : t.psc = s.psc) :
    PassStands d p t where
  mode := (congrArg Psc.mode e).trans h.mode
  pass := by rw [e]; exact h.pass

theorem PassStands.setPass {d : Bool} {p q r : PassRecord} (h : PassStands d p s) (hq : s.psc.pass = some q) (k : SamePass d q r) :
    PassStands d p (s.setPass r) where
  mode := h.mode
  pass := by
    obtain ⟨q', hq', same⟩ := h.pass
    cases hq.symm.trans hq'
    exact ⟨r, rfl, same.trans k⟩

theorem PassStands.handle {d : Bool} {p : PassRecord} {w : Work} (h : PassStands d p s) (k : w.retools d = true) :
    PassStands d p (handle w s).1 := by
  cases hc : w.changesPsc with
  | false => exact h.of_psc ((handle_leaves w s).psc hc)
  | true =>
    cases w
    case suspend c =>
      simp only [Machine.handle, pscSuspend]
      split
      · next q _ hq =>
        split
        · exact h.setPass hq ⟨rfl, rfl, rfl, rfl, rfl, fun _ => rfl⟩
        · split
          · exact h.setPass hq ⟨rfl, rfl, rfl, rfl, rfl, fun _ => rfl⟩
          · exact h
      · exact h
    case dropSprayFields =>
      simp only [Machine.handle, pscDropFields]
      split
      · next q hq => exact h.setPass hq ⟨rfl, rfl, rfl, rfl, rfl, fun e => absurd (show d = true from k) (by rw [e]; decide)⟩
      · exact h
    all_goals first | exact Bool.noConfusion k | exact Bool.noConfusion hc

theorem PassStands.selected {d : Bool} {p : PassRecord} (h : PassStands d p s) (k : Tool) : s.selected k = p.tools.has k := by
  obtain ⟨q, hq, same⟩ := h.pass
  rw [State.selected, inPass_iff.2 h.mode, hq, ← same.tools]
  rfl

/-- The pass stands, with the hand-offs of a change of tools that wait. -/
structure Retools (drops : Bool) (p : PassRecord) (s : State) (ws : List Work) : Prop where
  stands : PassStands drops p s
  works : ∀ w ∈ ws, w.retools drops = true

theorem Retools.step {d : Bool} {p : PassRecord} {w : Work} {ws : List Work} (h : Retools d p s (w :: ws)) :
    Retools d p (handle w s).1 ((handle w s).2 ++ ws) := by
  obtain ⟨head, rest⟩ := List.forall_mem_cons.1 h.works
  exact ⟨h.stands.handle head, fun v hv => (List.mem_append.1 hv).elim
    (fun hv => Work.retools_of_follows (retools_works h.stands.mode head v hv)) (rest v)⟩

/-- Also where hand-offs are left over, the pass stands. -/
theorem cascade_stands {d : Bool} {p : PassRecord} {ws : List Work} (h : Retools d p s ws) : PassStands d p (cascade ws s) := by
  rcases run_induct (P := Retools d p) (fun _ _ _ q => q.step) Config.handOffBound ws s h with q | ⟨u, _, q, e⟩
  · exact q.stands
  · rw [cascade, e]
    exact q.stands.of_psc rfl

/-! ### The open record meanwhile -/

/-- The bay of the open record, absent without a record. -/
def State.recordBay (s : State) : Option (Option Nat) := s.spg.openRec.map OpenRecord.bay

theorem charge_recordBay {o : Bool} {t : State} {ws : List Work} (h : s.charge o = some (t, ws)) : t.recordBay = s.recordBay := by
  unfold State.charge at h
  split at h
  · next r k hr _ =>
    split at h
    · cases h
      simp only [State.recordBay, hr]
      cases o <;> rfl
    · cases h
  · cases h

theorem chargePending_recordBay (n : Nat) (s : State) : (s.chargePending n).1.recordBay = s.recordBay := by
  induction n generalizing s with
  | zero => rfl
  | succ n ih =>
    unfold State.chargePending
    split
    · next t _ h => exact (ih t).trans (charge_recordBay h)
    · rfl

theorem decide_recordBay : (spgDecide s).1.recordBay = s.recordBay := by
  simp only [spgDecide]
  split
  · rfl
  · cases h : s.spg.openRec <;> simp [State.recordBay, h, OpenRecord.decided]

/-- Only an entry of the SPRAY cursor opens a record, and only its exit and the end of SPRAY close one (R165, R167). -/
theorem handle_recordBay {w : Work} (opens : w ≠ .sprayEntry) (closes : w ≠ .closeRecord) :
    (handle w s).1.recordBay = s.recordBay := by
  cases hc : w.changesSpg with
  | false => rw [State.recordBay, (handle_keeps w s).spg hc, State.recordBay]
  | true =>
    cases w
    case decide => exact decide_recordBay
    case permission t =>
      cases t
      case spray => exact decide_recordBay
      all_goals cases hc
    case seek =>
      cases h : s.spg.openRec with
      | none => simp only [handle, spgSeek, h]
      | some r =>
        simp only [handle, spgSeek, spgGrant, h]
        repeat' split
        · rfl
        · exact (chargePending_recordBay ..).trans (by simp only [State.recordBay, h])
        · simp only [State.recordBay, h]; rfl
    case takeOff =>
      simp only [handle, spgTakeOff]
      split
      · next h => exact charge_recordBay h
      · rfl
    case sprayStop => cases h : s.spg.openRec <;> simp [handle, spgStop, State.recordBay, h]
    case roomReport =>
      simp only [handle, spgRoomReport]
      repeat' split
      · next r h _ => simp only [State.recordBay, h]; rfl
      all_goals rfl
    case rpcChanged rose =>
      simp only [handle, oduRpcChanged]
      repeat' split
      all_goals cases h : s.spg.openRec <;> simp [State.recordBay, h]
    case sprayEntry => exact absurd rfl opens
    case closeRecord => exact absurd rfl closes
    all_goals cases hc

/-- The hand-offs of a change of tools that neither open nor close a record. -/
def Work.spares : Work → Bool
  | .closeRecord | .sprayEntry | .enter (.tool .spray) _ => false
  | w => w.retools false

theorem Work.spares_retools {d : Bool} {w : Work} (h : w.spares = true) : w.retools d = true := by
  cases w
  case enter c r =>
    rcases c with _ | t
    · exact Bool.noConfusion h
    · rfl
  case prunerEnd dropped =>
    cases dropped
    · exact Bool.noConfusion h
    · rfl
  all_goals first | exact h | exact Bool.noConfusion h

theorem spares_works {w : Work} (m : s.mode = .pass) (k : w.spares = true) : ∀ v ∈ (handle w s).2, v.spares = true := by
  intro v hv
  have f := retools_works (d := false) m (Work.spares_retools k) v hv
  have o := origin_of_mem hv
  cases v
  case closeRecord => cases w <;> first | exact Bool.noConfusion o | exact Bool.noConfusion k
  case sprayEntry =>
    cases w
    case enter c r =>
      rcases c with _ | t
      · exact Bool.noConfusion o
      · cases t <;> first | exact Bool.noConfusion o | exact Bool.noConfusion k
    all_goals exact Bool.noConfusion o
  case enter => exact Bool.noConfusion f
  all_goals first | exact f | exact Bool.noConfusion f

/-- The pass stands, the record is open for the bay `b` or absent, and what waits spares it. -/
structure Spares (p : PassRecord) (b : Option (Option Nat)) (s : State) (ws : List Work) : Prop where
  stands : PassStands false p s
  bay : s.recordBay = b
  works : ∀ w ∈ ws, w.spares = true

theorem Spares.step {p : PassRecord} {b : Option (Option Nat)} {w : Work} {ws : List Work} (h : Spares p b s (w :: ws)) :
    Spares p b (handle w s).1 ((handle w s).2 ++ ws) := by
  obtain ⟨head, rest⟩ := List.forall_mem_cons.1 h.works
  refine ⟨h.stands.handle (Work.spares_retools head), (handle_recordBay ?_ ?_).trans h.bay,
    fun v hv => (List.mem_append.1 hv).elim (spares_works h.stands.mode head v) (rest v)⟩
  all_goals rintro rfl; exact Bool.noConfusion head

/-- Hand-offs that spare the record, carried out to the end: the pass stands, and so does the record. -/
theorem run_spares {n : Nat} {p : PassRecord} {ws : List Work} (h : PassStands false p s) (k : ∀ w ∈ ws, w.spares = true)
    (o : (run n ws s).overrun = false) : PassStands false p (run n ws s) ∧ (run n ws s).recordBay = s.recordBay := by
  obtain ⟨m, u, q, e⟩ := run_then (P := Spares p s.recordBay) (fun _ _ _ q => q.step) n ws [] s ⟨h, rfl, k⟩
    (by rw [List.append_nil]; exact o)
  rw [List.append_nil, run_nil] at e
  rw [e]
  exact ⟨q.stands, q.bay⟩

/-! ### SPRAY dropped -/

theorem handle_dropSprayFields {q : PassRecord} (h : s.psc.pass = some q) :
    handle .dropSprayFields s = (s.setPass { q with spray := none }, []) := by
  simp only [handle, pscDropFields, h]

theorem run_closeRecord_none {n : Nat} {vs : List Work} (o : (run n (.closeRecord :: vs) s).overrun = false) :
    ∃ m t, t.psc = s.psc ∧ t.spg.openRec = none ∧ run n (.closeRecord :: vs) s = run m vs t := by
  obtain ⟨m, l, e⟩ := run_closeRecord o
  refine ⟨m, _, ?_, ?_, e⟩ <;> rfl

/-- The record closed and the fields dropped, between hand-offs that open and close none (R103, R170). -/
theorem cascade_drops {p : PassRecord} {ws vs : List Work} (h : Retools false p s ws) (k : ∀ w ∈ vs, w.spares = true)
    (o : (cascade (ws ++ .closeRecord :: .dropSprayFields :: vs) s).overrun = false) :
    let t := cascade (ws ++ .closeRecord :: .dropSprayFields :: vs) s
    PassStands false { p with spray := none } t ∧ t.spg.openRec = none := by
  obtain ⟨n1, u, before, e1⟩ := run_then (P := Retools false p) (fun _ _ _ q => q.step) _ _ _ _ h o
  rw [cascade, e1] at o ⊢
  obtain ⟨n2, v, psc, empty, e2⟩ := run_closeRecord_none o
  rw [e2] at o ⊢
  obtain ⟨q, hq, same⟩ := before.stands.pass
  obtain ⟨n3, e3⟩ := run_peel (handle_dropSprayFields (psc ▸ hq)) o
  rw [e3] at o ⊢
  have stands : PassStands false { p with spray := none } (v.setPass { q with spray := none }) :=
    ⟨(congrArg Psc.mode psc).trans before.stands.mode, _, rfl, same.row, same.passId, same.start, same.tools, same.rehearsal,
      fun _ => rfl⟩
  obtain ⟨stands', bay⟩ := run_spares stands k o
  exact ⟨stands', Option.map_eq_none_iff.1 (bay.trans (congrArg (Option.map _) empty))⟩

/-! ### SPRAY added -/

/-- The bay of a record opened at a resolution (R165). -/
def Resolution.recordBay : Resolution → Option Nat
  | .bay i => some i
  | .miss => Option.none
  | .none => Option.none

theorem Resolution.recordBay_iff (r : Resolution) (i : Nat) : r.recordBay = some i ↔ r = .bay i := by
  cases r <;> simp [Resolution.recordBay]

theorem newRecord_bay : s.newRecord.bay = s.mpu.spray.res.recordBay := by
  simp only [State.newRecord]
  cases s.mpu.spray.res <;> rfl

theorem handle_enter_spray (r : Resolution) : ∃ t, handle (.enter (.tool .spray) r) s = (t, [.missTest .spray, .sprayEntry]) ∧
    t.psc = s.psc ∧ t.mpu.spray.res = r := ⟨_, rfl, rfl, rfl⟩

theorem handle_sprayEntry_selected (h : s.selected .spray = true) : ∃ t, handle .sprayEntry s = (t, [.decide]) ∧ t.psc = s.psc ∧
    t.recordBay = some s.mpu.spray.res.recordBay := by
  refine ⟨{ s with spg := { s.spg with openRec := some s.newRecord } }, ?_, rfl, congrArg some newRecord_bay⟩
  simp only [handle, spgEntry, h, if_true]

/-- The pass stands, the SPRAY cursor is resolved to `r`, and what waits moves no cursor. -/
structure Enters (p : PassRecord) (r : Resolution) (s : State) (ws : List Work) : Prop where
  stands : PassStands false p s
  res : s.mpu.spray.res = r
  works : ∀ w ∈ ws, w.follows = true

theorem Enters.step {p : PassRecord} {r : Resolution} {w : Work} {ws : List Work} (h : Enters p r s (w :: ws)) :
    Enters p r (handle w s).1 ((handle w s).2 ++ ws) := by
  obtain ⟨head, rest⟩ := List.forall_mem_cons.1 h.works
  exact ⟨h.stands.handle (Work.retools_of_follows head), ((follows_keeps head).res (.tool .spray) (by simp)).trans h.res,
    fun v hv => (List.mem_append.1 hv).elim (follows_works h.stands.mode head v) (rest v)⟩

/-- The entry of the SPRAY cursor opens a record at the resolution entered, which what follows leaves open (R103, R165). -/
theorem cascade_adds {p : PassRecord} {ws : List Work} {r : Resolution} {k : ToolSet} (h : Retools false p s ws)
    (spray : p.tools.spray = true) (o : (cascade (ws ++ [.enter (.tool .spray) r, .barredTest k]) s).overrun = false) :
    (cascade (ws ++ [.enter (.tool .spray) r, .barredTest k]) s).recordBay = some r.recordBay := by
  obtain ⟨n1, u, before, e1⟩ := run_then (P := Retools false p) (fun _ _ _ q => q.step) _ _ _ _ h o
  rw [cascade, e1] at o ⊢
  obtain ⟨t, entered, psc, res⟩ := handle_enter_spray (s := u) r
  obtain ⟨n2, e2⟩ := run_peel entered o
  rw [e2] at o ⊢
  have enters : Enters p r t [.missTest .spray] := ⟨before.stands.of_psc psc, res, List.all_eq_true.1 rfl⟩
  obtain ⟨n3, v, ⟨stands, res', -⟩, e3⟩ := run_then (P := Enters p r) (fun _ _ _ q => q.step) n2 _ [.sprayEntry, .barredTest k] _
    enters o
  rw [show run n2 ([.missTest .spray, .sprayEntry] ++ [.barredTest k]) t = _ from e3] at o ⊢
  obtain ⟨x, entry, psc', bay⟩ := handle_sprayEntry_selected ((stands.selected .spray).trans spray)
  obtain ⟨n4, e4⟩ := run_peel entry o
  rw [e4] at o ⊢
  rw [(run_spares (stands.of_psc psc') (List.all_eq_true.1 rfl) o).2, bay, res']

end Sys2Proof.Machine

/-! PROOFS. TOOL_SET: its payload, its tests, the tools it replaces (R102, R103, R128, R165, R208). -/

namespace Sys2Proof.Machine

variable {s : State}

/-! ### The payload -/

theorem toolSetOfByte_spray {b : Byte} {tools : ToolSet} (h : toolSetOfByte b = some tools) : b.getLsbD 2 = tools.spray := by
  simp only [toolSetOfByte] at h
  split at h
  · cases h; rfl
  · cases h

theorem toolSetOfByte_outside {b : Byte} (h : b.toNat = 0 ∨ 7 < b.toNat) :
    toolSetOfByte b = none ∨ toolSetOfByte b = some ToolSet.empty := by
  rcases h with h | h
  · rw [show b = 0#8 from BitVec.eq_of_toNat_eq h]
    exact .inr rfl
  · exact .inl (toolSetOfByte_none h)

theorem selected_of_pass {p : PassRecord} (m : s.mode = .pass) (h : s.psc.pass = some p) (k : Tool) :
    s.selected k = p.tools.has k := by
  simp [State.selected, inPass_iff.2 m, h]

theorem toolLengthOk_eq {p : PassRecord} (m : s.mode = .pass) (h : s.psc.pass = some p) (b : Byte) (fields : List Byte) :
    s.toolLengthOk (b :: fields) = (fields.length + 1 == if b.getLsbD 2 && !p.tools.spray then 8 else 1) := by
  simp only [State.toolLengthOk, selected_of_pass m h, List.length_cons]
  rfl

/-- The spray fields of a TOOL_SET payload, which only an added SPRAY needs (R102). -/
def addedFields (added : ToolSet) (fields : List Byte) : Option (Option SprayFields × Bool) :=
  if added.spray then (sprayFieldsOf fields).map fun x => (some x.1, x.2) else some (none, false)

theorem minus_spray_off {a b : ToolSet} (h : a.spray = true → b.spray = true) : (a.minus b).spray = false := by
  cases ha : a.spray <;> simp_all [ToolSet.minus]

theorem minus_spray_on {a b : ToolSet} (ha : a.spray = true) (hb : b.spray = false) : (a.minus b).spray = true := by
  simp [ToolSet.minus, ha, hb]

theorem addedFields_off {added : ToolSet} (h : added.spray = false) (fields : List Byte) :
    addedFields added fields = some (none, false) := if_neg (by rw [h]; decide)

theorem addedFields_on {added : ToolSet} (h : added.spray = true) (fields : List Byte) :
    addedFields added fields = (sprayFieldsOf fields).map fun x => (some x.1, x.2) := if_pos h

/-! ### The tests -/

section ToolSetTaken

variable {tag b : Byte} {fields : List Byte} {p : PassRecord} {tools : ToolSet} (hp : s.powered = true) (hm : s.mode = .pass)
  (hpass : s.psc.pass = some p) (ht : s.takes ⟨0x34#8, tag, b :: fields⟩ = true)

include hp hm hpass ht

omit hpass in
theorem exec_toolSet_length (hl : s.toolLengthOk (b :: fields) = false) : exec (.toolSet tag (b :: fields)) s =
    .next ((takeFrame ⟨0x34#8, tag, b :: fields⟩ s).refusedWith ⟨0x34#8, tag, b :: fields⟩ .badLength) :=
  command_badLength (kind := 0x34) hp ht ((takeFrame_inPass _ _).trans (inPass_iff.2 hm)) hl

variable (hl : s.toolLengthOk (b :: fields) = true)

include hl

theorem exec_toolSet_outside (h : toolSetOfByte b = none ∨ toolSetOfByte b = some ToolSet.empty) :
    exec (.toolSet tag (b :: fields)) s =
      .next ((takeFrame ⟨0x34#8, tag, b :: fields⟩ s).refusedWith ⟨0x34#8, tag, b :: fields⟩ .outOfRange) := by
  refine command_refused (kind := 0x34) hp ht ((takeFrame_inPass _ _).trans (inPass_iff.2 hm)) hl ?_
  simp only [takeFrame_psc, hpass]
  rcases h with h | h <;> simp only [h, if_true]

variable (hb : toolSetOfByte b = some tools) (n : tools ≠ ToolSet.empty)

include hb n

theorem exec_toolSet_fields (h : addedFields (tools.minus p.tools) fields = none) : exec (.toolSet tag (b :: fields)) s =
    .next ((takeFrame ⟨0x34#8, tag, b :: fields⟩ s).refusedWith ⟨0x34#8, tag, b :: fields⟩ .outOfRange) := by
  refine command_refused (kind := 0x34) hp ht ((takeFrame_inPass _ _).trans (inPass_iff.2 hm)) hl ?_
  simp only [addedFields] at h
  simp only [takeFrame_psc, hpass, hb, if_neg n, h]

variable {f : Option SprayFields} {c : Bool} (hf : addedFields (tools.minus p.tools) fields = some (f, c))

include hf

theorem exec_toolSet_tests {r : Reason} (h : s.toolTests (tools.minus p.tools) = some r) : exec (.toolSet tag (b :: fields)) s =
    .next ((takeFrame ⟨0x34#8, tag, b :: fields⟩ s).refusedWith ⟨0x34#8, tag, b :: fields⟩ r) := by
  refine command_refused (kind := 0x34) hp ht ((takeFrame_inPass _ _).trans (inPass_iff.2 hm)) hl ?_
  simp only [addedFields] at hf
  simp only [takeFrame_psc, hpass, hb, if_neg n, hf, takeFrame_toolTests, h]

variable (k : s.toolTests (tools.minus p.tools) = none)

include k

theorem exec_toolSet_held (e : tools = p.tools) : exec (.toolSet tag (b :: fields)) s =
    .next ((takeFrame ⟨0x34#8, tag, b :: fields⟩ s).replied ⟨0x34#8, tag, b :: fields⟩ (.toolSet (some p) c)) := by
  have reply : OkResult.toolSet (takeFrame ⟨0x34#8, tag, b :: fields⟩ s).psc.pass c = .toolSet (some p) c := by
    rw [takeFrame_psc, hpass]
  rw [← reply]
  refine command_ok (kind := 0x34) (a := (takeFrame ⟨0x34#8, tag, b :: fields⟩ s, [], fun t => .toolSet t.psc.pass c)) hp ht
    ((takeFrame_inPass _ _).trans (inPass_iff.2 hm)) hl ?_
  simp only [addedFields] at hf
  simp only [takeFrame_psc, hpass, hb, if_neg n, hf, takeFrame_toolTests, k, if_pos e]

theorem exec_toolSet (e : tools ≠ p.tools) :
    let u := (takeFrame ⟨0x34#8, tag, b :: fields⟩ s).replaceTools p tools f
    let t := cascade (u.toolWorks (p.tools.minus tools) (tools.minus p.tools)) u
    exec (.toolSet tag (b :: fields)) s = .next (t.replied ⟨0x34#8, tag, b :: fields⟩ (.toolSet t.psc.pass c)) := by
  refine command_ok (kind := 0x34) (a := (State.replaceTools _ p tools f, State.toolWorks _ _ _, fun t => .toolSet t.psc.pass c))
    hp ht ((takeFrame_inPass _ _).trans (inPass_iff.2 hm)) hl ?_
  simp only [addedFields] at hf
  simp only [takeFrame_psc, hpass, hb, if_neg n, hf, takeFrame_toolTests, k, if_neg e]

end ToolSetTaken

/-! ### The tools replaced -/

/-- The pass record with its tools replaced (R103). -/
def PassRecord.retooled (p : PassRecord) (tools : ToolSet) (f : Option SprayFields) : PassRecord :=
  { p with tools, spray := if (tools.minus p.tools).spray then f else p.spray }

theorem replaceTools_stands {d : Bool} {p : PassRecord} {tools : ToolSet} {f : Option SprayFields} (m : s.mode = .pass) :
    PassStands d (p.retooled tools f) (s.replaceTools p tools f) := ⟨m, _, rfl, .refl ..⟩

theorem replaceTools_base (p : PassRecord) (tools : ToolSet) (f : Option SprayFields) : SameBase s (s.replaceTools p tools f) := by
  constructor <;> rfl

/-- What dropped tools hand on before SPRAY's own, and added ones before SPRAY's entry (R103). -/
def cutterDrops (dropped : ToolSet) : List Work :=
  (if dropped.weeder then [.weederStop, .trunksDrop .weeder] else []) ++
  (if dropped.pruner then [.prunerEnd true, .trunksDrop .pruner] else [])

def State.cutterEntries (s : State) (added : ToolSet) : List Work :=
  (if added.weeder then [.enter (.tool .weeder) s.mpu.weeder.res] else []) ++
  (if added.pruner then [.enter (.tool .pruner) s.mpu.pruner.res] else [])

theorem toolWorks_eq (dropped added : ToolSet) : s.toolWorks dropped added = cutterDrops dropped ++
    ((if dropped.spray then [.decide, .closeRecord, .dropSprayFields] else []) ++ (s.cutterEntries added ++
      ((if added.spray then [.enter (.tool .spray) s.mpu.spray.res] else []) ++ [.barredTest added]))) := by
  simp only [State.toolWorks, cutterDrops, State.cutterEntries, List.append_assoc]
  rfl

theorem cutterDrops_retools {d : Bool} {dropped : ToolSet} : ∀ w ∈ cutterDrops dropped, w.retools d = true := by
  refine List.all_eq_true.1 ?_
  simp only [cutterDrops, List.all_append, Bool.and_eq_true]
  constructor <;> split <;> rfl

theorem cutterEntries_spares {added : ToolSet} : ∀ w ∈ s.cutterEntries added, w.spares = true := by
  refine List.all_eq_true.1 ?_
  simp only [State.cutterEntries, List.all_append, Bool.and_eq_true]
  constructor <;> split <;> rfl

theorem toolWorks_retools {d : Bool} {dropped added : ToolSet} (h : dropped.spray = true → d = true) :
    ∀ w ∈ s.toolWorks dropped added, w.retools d = true := by
  intro w hw
  simp only [toolWorks_eq, List.mem_append] at hw
  rcases hw with hw | hw | hw | hw | hw
  · exact cutterDrops_retools w hw
  · split at hw
    · next hd =>
      rw [h hd]
      exact (by decide : ∀ w ∈ [Work.decide, .closeRecord, .dropSprayFields], w.retools true = true) w hw
    · cases hw
  · exact Work.spares_retools (cutterEntries_spares w hw)
  · split at hw
    · rw [List.mem_singleton.1 hw]; rfl
    · cases hw
  · rw [List.mem_singleton.1 hw]; rfl

/-- An accepted change of tools: the frame kept, the pass open with the new tools (R103). -/
theorem cascade_retools {d : Bool} {p : PassRecord} {tools : ToolSet} {f : Option SprayFields} (m : s.mode = .pass)
    (h : (p.tools.minus tools).spray = true → d = true) :
    let u := s.replaceTools p tools f
    let t := cascade (u.toolWorks (p.tools.minus tools) (tools.minus p.tools)) u
    SameBase s t ∧ PassStands d (p.retooled tools f) t :=
  ⟨(replaceTools_base ..).trans (cascade_base _ _ ((plain_iff _).2 fun w hw => Work.retools_plain (toolWorks_retools h w hw))),
    cascade_stands ⟨replaceTools_stands m, toolWorks_retools h⟩⟩

/-- A change that drops SPRAY leaves neither its fields nor an open record (R103, R170). -/
theorem cascade_toolWorks_dropped {p : PassRecord} {dropped added : ToolSet} (h : PassStands false p s) (hd : dropped.spray = true)
    (ha : added.spray = false) (o : (cascade (s.toolWorks dropped added) s).overrun = false) :
    PassStands false { p with spray := none } (cascade (s.toolWorks dropped added) s) ∧
      (cascade (s.toolWorks dropped added) s).spg.openRec = none := by
  have e : s.toolWorks dropped added = (cutterDrops dropped ++ [.decide]) ++
      .closeRecord :: .dropSprayFields :: (s.cutterEntries added ++ [.barredTest added]) := by
    rw [toolWorks_eq, hd, ha]
    simp
  rw [e] at o ⊢
  refine cascade_drops ⟨h, ?_⟩ ?_ o
  · simp only [List.mem_append, List.mem_singleton]
    rintro w (hw | rfl)
    · exact cutterDrops_retools w hw
    · rfl
  · simp only [List.mem_append, List.mem_singleton]
    rintro w (hw | rfl)
    · exact cutterEntries_spares w hw
    · rfl

/-- A change that adds SPRAY leaves a record open at the resolution of its cursor (R103, R165). -/
theorem cascade_toolWorks_added {p : PassRecord} {dropped added : ToolSet} (h : PassStands false p s) (hd : dropped.spray = false)
    (ha : added.spray = true) (spray : p.tools.spray = true) (o : (cascade (s.toolWorks dropped added) s).overrun = false) :
    (cascade (s.toolWorks dropped added) s).recordBay = some s.mpu.spray.res.recordBay := by
  have e : s.toolWorks dropped added = (cutterDrops dropped ++ s.cutterEntries added) ++
      [.enter (.tool .spray) s.mpu.spray.res, .barredTest added] := by
    rw [toolWorks_eq, hd, ha]
    simp
  rw [e] at o ⊢
  refine cascade_adds ⟨h, ?_⟩ spray o
  simp only [List.mem_append]
  rintro w (hw | hw)
  · exact cutterDrops_retools w hw
  · exact Work.spares_retools (cutterEntries_spares w hw)

/-! ### The command -/

/-- Where no term of SPRAY refuses the tools, the cane program alone can (R92, R102). -/
theorem toolTests_pruner {k : ToolSet} (h : k.spray = true → s.spg.tank ≠ none ∧ s.lgs.currentSlot ≠ none) :
    s.toolTests k = if k.pruner = true ∧ s.prs.program = none then some .noProgram else none := by
  have tank : (k.spray && s.spg.tank.isNone) = false := by
    rw [Bool.and_eq_false_imp]
    exact fun e => Option.isNone_eq_false_iff.2 (Option.isSome_iff_ne_none.2 (h e).1)
  have slot : (k.spray && s.lgs.currentSlot.isNone) = false := by
    rw [Bool.and_eq_false_imp]
    exact fun e => Option.isNone_eq_false_iff.2 (Option.isSome_iff_ne_none.2 (h e).2)
  simp only [State.toolTests, tank, slot, Bool.false_eq_true, if_false, Bool.and_eq_true, Option.isNone_iff_eq_none]

theorem minus_pruner {a b : ToolSet} : (a.minus b).pruner = true ↔ a.pruner = true ∧ b.pruner = false := by simp [ToolSet.minus]

/-- What an accepted change of the tools of `p` leaves, the frame taken at `u` (R102, R103, R165). -/
structure ToolsChanged (p : PassRecord) (tools : ToolSet) (f : Option SprayFields) (u t : State) : Prop where
  base : SameBase u t
  stands : PassStands (p.tools.minus tools).spray (p.retooled tools f) t
  dropped : (p.tools.minus tools).spray = true → t.overrun = false →
    PassStands false { p.retooled tools f with spray := none } t ∧ t.spg.openRec = none
  added : (tools.minus p.tools).spray = true → t.overrun = false → t.recordBay = some u.mpu.spray.res.recordBay

theorem minus_spray_one {a b : ToolSet} (h : (a.minus b).spray = true) : a.spray = true ∧ b.spray = false := by
  simpa [ToolSet.minus] using h

theorem cascade_toolsChanged {p : PassRecord} {tools : ToolSet} {f : Option SprayFields} (m : s.mode = .pass) :
    ToolsChanged p tools f s (cascade ((s.replaceTools p tools f).toolWorks (p.tools.minus tools) (tools.minus p.tools))
      (s.replaceTools p tools f)) where
  base := (cascade_retools m id).1
  stands := (cascade_retools m id).2
  dropped h := cascade_toolWorks_dropped (replaceTools_stands m) h (minus_spray_off fun _ => (minus_spray_one h).1)
  added h := cascade_toolWorks_added (replaceTools_stands m) (minus_spray_off fun _ => (minus_spray_one h).1) h
    (minus_spray_one h).1

theorem exec_toolSet_changes {tag b : Byte} {fields : List Byte} {p : PassRecord} {tools : ToolSet} {f : Option SprayFields}
    {c : Bool} (hp : s.powered = true) (hm : s.mode = .pass) (hpass : s.psc.pass = some p)
    (ht : s.takes ⟨0x34#8, tag, b :: fields⟩ = true) (hl : s.toolLengthOk (b :: fields) = true) (hb : toolSetOfByte b = some tools)
    (n : tools ≠ ToolSet.empty) (hf : addedFields (tools.minus p.tools) fields = some (f, c))
    (k : s.toolTests (tools.minus p.tools) = none) (e : tools ≠ p.tools) :
    ∃ t, exec (.toolSet tag (b :: fields)) s = .next (t.replied ⟨0x34#8, tag, b :: fields⟩ (.toolSet t.psc.pass c)) ∧
      ToolsChanged p tools f (takeFrame ⟨0x34#8, tag, b :: fields⟩ s) t :=
  ⟨_, exec_toolSet hp hm hpass ht hl hb n hf k e, cascade_toolsChanged ((takeFrame_mode ..).trans hm)⟩

/-- Settles O34: the payload and the tests in their order; the pass through the hand-offs of the change, and the open record that
a dropped SPRAY closes and an added one opens. -/
theorem toolSetting : Obligations.ToolSetting := by
  refine ⟨?cutters, ?spray⟩
  case cutters =>
    intro tag b p tools s hp hm hpass sub f ht u
    have length (h : b.getLsbD 2 = true → p.tools.spray = true) : s.toolLengthOk [b] = true := by
      rw [toolLengthOk_eq hm hpass, if_neg (by simpa using h)]
      rfl
    refine ⟨fun out h => exec_toolSet_outside hp hm hpass ht (length h) (toolSetOfByte_outside out), fun hb n => ?_⟩
    have hl := length (by rw [toolSetOfByte_spray hb]; exact sub)
    have off := minus_spray_off sub
    have hf := addedFields_off off []
    have tests := toolTests_pruner (s := s) fun e => absurd e (by rw [off]; decide)
    refine ⟨fun e => exec_toolSet_held hp hm hpass ht hl hb n hf (tests.trans (if_neg ?held)) e,
      fun new old missing => exec_toolSet_tests hp hm hpass ht hl hb n hf
        (tests.trans (if_pos ⟨minus_pruner.2 ⟨new, old⟩, missing⟩)),
      fun e program => ?replaced⟩
    case held =>
      rintro ⟨new, -⟩
      obtain ⟨new, old⟩ := minus_pruner.1 new
      rw [e, old] at new
      cases new
    case replaced =>
      obtain ⟨t, exec, base, ⟨mode, p', pass, same⟩, dropped, -⟩ := exec_toolSet_changes hp hm hpass ht hl hb n hf
        (tests.trans (if_neg fun h => program (minus_pruner.1 h.1).1 h.2)) e
      refine ⟨_, p', exec, base.replied .., mode, pass, same.tools, same.row, same.passId, same.start, same.rehearsal,
        fun o new old => ?_⟩
      obtain ⟨⟨-, q, hq, gone⟩, closed⟩ := dropped (minus_spray_on old new) o
      cases hq.symm.trans pass
      exact ⟨gone.spray rfl, closed⟩
  case spray =>
    intro tag b fields p tools s hp hm hpass hb new old f ht u needsProgram
    have length : s.toolLengthOk (b :: fields) = (fields.length + 1 == 8) := by
      rw [toolLengthOk_eq hm hpass, toolSetOfByte_spray hb, new, old]
      rfl
    have n : tools ≠ ToolSet.empty := by rintro rfl; cases new
    have on := minus_spray_on new old
    refine ⟨fun l => exec_toolSet_length hp hm ht ?_, fun l h => ?_, fun spray clamped l h => ?_⟩
    · rw [length]
      exact beq_eq_false_iff_ne.2 fun e => l (Nat.succ.inj e)
    all_goals have hl : s.toolLengthOk (b :: fields) = true := by rw [length, l]; rfl
    · exact exec_toolSet_fields hp hm hpass ht hl hb n (by rw [addedFields_on on, h]; rfl)
    have hf : addedFields (tools.minus p.tools) fields = some (some spray, clamped) := by rw [addedFields_on on, h]; rfl
    have refused {r : Reason} := exec_toolSet_tests hp hm hpass ht hl hb n hf (r := r)
    refine ⟨fun t => refused (toolTests_noTank on t), fun t c => refused (toolTests_noRegistration on t c),
      fun t c needs => refused ((toolTests_pruner fun _ => ⟨t, c⟩).trans (if_pos ⟨minus_pruner.2 ⟨needs.1, needs.2.1⟩, needs.2.2⟩)),
      fun t c has => ?accepted⟩
    case accepted =>
      have tests : s.toolTests (tools.minus p.tools) = none := (toolTests_pruner fun _ => ⟨t, c⟩).trans
        (if_neg fun ⟨a, missing⟩ => has ⟨(minus_pruner.1 a).1, (minus_pruner.1 a).2, missing⟩)
      obtain ⟨t, exec, base, ⟨mode, p', pass, same⟩, -, added⟩ := exec_toolSet_changes hp hm hpass ht hl hb n hf tests
        (by rintro rfl; rw [new] at old; cases old)
      rw [pass] at exec
      refine ⟨_, p', exec, base.replied .., mode, pass, same.tools, (same.spray (minus_spray_off fun _ => new)).trans (if_pos on),
        same.row, same.passId, same.start, same.rehearsal, reply_mem_tx f _, fun o => ?_⟩
      obtain ⟨r, opened, bay⟩ := Option.map_eq_some_iff.1 (added on o)
      refine ⟨r, opened, fun i => ?_⟩
      rw [bay, Resolution.recordBay_iff, takeFrame_mpu]

end Sys2Proof.Machine

/-! PROOFS. LOCKOUT: what the hand-offs and the rows leave as it is while it lasts, and the repeated fault that enters it (R127,
R149, R195 to R198). -/

namespace Sys2Proof.Machine

variable {s t u : State}

/-! ### The mode, the head and the weeder's marks at a hand-off -/

/-- Past STARTUP's end a hand-off leaves the mode or enters LOCKOUT (R197). -/
theorem handle_mode {w : Work} (n : w ≠ .startEnd) : (handle w s).1.mode = s.mode ∨ (handle w s).1.mode = .lockout := by
  cases hc : w.changesPsc with
  | false => exact .inl (congrArg Psc.mode ((handle_leaves w s).psc hc))
  | true =>
    cases w
    case enterLockout => exact .inr rfl
    case startEnd => exact absurd rfl n
    case suspend c => exact .inl (handle_suspend_mode c)
    case passEnd r => left; simp only [handle, pscEnd]; split <;> rfl
    case dropSprayFields => left; simp only [handle, pscDropFields]; split <;> rfl
    all_goals cases hc

/-- Past STARTUP nothing hands on its end (R206). -/
theorem startEnd_not_mem {w : Work} (m : s.mode ≠ .startup) : Work.startEnd ∉ (handle w s).2 := by
  intro h
  have c := List.all_eq_true.1 (handle_comesFrom w s) _ h
  cases w
  case startEndTest => rw [handle_startEndTest_live m] at h; cases h
  all_goals cases c

/-- The physical head and the messages sent to it. -/
def State.headLink (s : State) : Head × List Pair := (s.prs.head, s.out.headTxd)

/-- Targets alone change the physical head or send it a message (R135). -/
theorem handle_headLink {w : Work} (n : ∀ p, w ≠ .issue p) : (handle w s).1.headLink = s.headLink := by
  have of_spg {v : State} (h : { v with spg := s.spg } = s) : v.headLink = s.headLink := by
    rw [← h]; rfl
  have drive : (wsqDrive s).1.headLink = s.headLink := by
    dsimp only [wsqDrive]
    repeat' split
    all_goals rfl
  have decide : (spgDecide s).1.headLink = s.headLink := by
    dsimp only [spgDecide]
    repeat' split
    all_goals rfl
  cases w
  case issue p => exact absurd rfl (n p)
  case occur f d => simp [handle, cduOccur, State.headLink]
  case majorFlag c o m =>
    simp only [handle, cduMajorFlag]
    repeat' split
    all_goals simp [State.headLink]
  case answer r a =>
    cases r <;> cases a <;> simp only [handle, wsqAnswer, prsAnswer]
    all_goals
      repeat' split
      all_goals rfl
  case permission k =>
    cases k
    case weeder => exact drive
    case spray => exact decide
    case pruner =>
      simp only [handle, prsPermission]
      repeat' split
      all_goals rfl
  case drive => exact drive
  case decide => exact decide
  case mapMove =>
    simp only [handle, mpuMove]
    rw [arrange_eq]
    rfl
  case trip c =>
    rcases handle_trip_cases (s := s) c with e | ⟨r, k, n, -, -, e⟩
    · rw [e]
    · rw [e]; rfl
  case takeOff =>
    simp only [handle, spgTakeOff]
    split
    · next hc => exact of_spg (charge_spec hc).1
    · rfl
  case seek =>
    simp only [handle, spgSeek, spgGrant]
    repeat' split
    all_goals first
      | rfl
      | exact of_spg (congrArg (fun v : State => { v with spg := s.spg }) (chargePending_spec _ _).1)
  case compute | takeResult | ceiling | evalWaiting | evalOne | bandGiven | recover | reload | tankReport | ask |
    withdraw | moveStarted | sensorFault | profileTaken =>
    dsimp only [handle, stuCompute, stuTakeResult, stuCeiling, stuEvalWaiting, stuEvaluate, stuBandGiven,
      stuRecover, stuReload, stuTankReport, stuItem, stuAsk, stuWithdraw, stuMoveStarted, stuSensorFault, stuProfile]
    repeat' split
    all_goals rfl
  case rpcChanged | reverseTest | clearWeeder | purge | trunksEnd | trunksDrop | moveCursor | enter | missTest | barredTest |
    actQuery | mapEnd =>
    dsimp only [handle, oduRpcChanged, oduReverseTest, ttrClearWeeder, ttrPurge, ttrEnd, ttrDrop, mpuMoveCursor, mpuExit,
      mpuEnter, mpuMissTest, mpuBarredTest, mpuActQuery, mpuEnd]
    repeat' split
    all_goals rfl
  case fire | fireEnd | immediate | lift | queueTrunk | queueFull | arm | weederWithheld | weederTrip | weederStop |
    weederEnd | overflow | rebuild =>
    dsimp only [handle, wsqFire, wsqFireEnd, wsqImmediate, wsqLift, wsqQueueTrunk, wsqQueueFull, wsqArm,
      wsqWithheld, wsqTrip, wsqStop, wsqEnd, wsqOverflow, wsqRebuild]
    repeat' split
    all_goals rfl
  case rest | headDone | consider | startRun | enterPhase | phaseEnd | endRun | outcome | skipAll | haltDone | prunerTrip |
    prunerFault | prunerStop | prunerResume | prunerEnd | trunkLost =>
    dsimp only [handle, prsRest, prsHeadDone, prsConsider, prsStartRun, prsEnterPhase, prsPhaseEnd, prsEndRun, prsOutcome,
      prsSkipAll, prsHaltDone, prsTrip, prsFault, prsStop, prsResume, prsEnd, prsTrunkLost]
    repeat' split
    all_goals rfl
  case seekForFlow | sprayEntry | closeRecord | sprayStop | roomReport | stage | arbiter | halt | nearFull |
    startReports =>
    dsimp only [handle, spgSeekForFlow, spgEntry, spgClose, spgStop, spgRoomReport, lgsStage, lgsArbiter, lgsHalt,
      lgsNearFull, lgsStartReports]
    repeat' split
    all_goals rfl
  case major | enterLockout | suspend | passEnd | dropSprayFields | startEndTest | startEnd | frameIn | discard =>
    dsimp only [handle, cduMajor, cduLockout, pscSuspend, pscEnd, pscDropFields, mlkStartEndTest, mlkStartEnd, mlkFrameIn,
      mlkDiscard]
    repeat' split
    all_goals rfl

/-- The cleared-to position has reached `c` (R116). -/
def Wsq.clearedPast (w : Wsq) (c : Int) : Prop := ∃ d, w.clearedTo = some d ∧ c ≤ d

theorem raiseCleared_reaches (w : Wsq) (c : Int) : (w.raiseCleared c).clearedPast c := by
  refine ⟨_, rfl, ?_⟩
  split
  · exact le_max_right ..
  · exact le_rfl

theorem Wsq.clearedPast.raise {w : Wsq} {c : Int} (h : w.clearedPast c) (d : Int) : (w.raiseCleared d).clearedPast c := by
  obtain ⟨e, he, hc⟩ := h
  exact ⟨max e d, by simp [Wsq.raiseCleared, he], hc.trans (le_max_left ..)⟩

theorem Wsq.clearedPast.raises {w : Wsq} {c : Int} (h : w.clearedPast c) (l : List Trunk) (f : Trunk → Int) :
    (l.foldl (fun w x => w.raiseCleared (f x)) w).clearedPast c := by
  induction l generalizing w with
  | nil => exact h
  | cons x l ih => exact ih (h.raise (f x))

theorem raiseCleared_withheld (w : Wsq) (l : List Trunk) (f : Trunk → Int) :
    (l.foldl (fun w x => Wsq.raiseCleared w (f x)) w).stall = w.stall ∧
      (l.foldl (fun w x => Wsq.raiseCleared w (f x)) w).fault = w.fault := by
  induction l generalizing w with
  | nil => exact ⟨rfl, rfl⟩
  | cons x l ih => exact ih (w.raiseCleared (f x))

theorem raisePastCaptures_withheld (s : State) :
    s.raisePastCaptures.stall = s.wsq.stall ∧ s.raisePastCaptures.fault = s.wsq.fault := by
  unfold State.raisePastCaptures
  split <;> exact ⟨rfl, rfl⟩

theorem raisePastCaptures_clearedPast {c : Int} (h : s.wsq.clearedPast c) : s.raisePastCaptures.clearedPast c := by
  unfold State.raisePastCaptures
  split
  · exact h.raise _
  · exact h

/-- What a hand-off leaves of the weeder's withheld set and of its cleared-to position. -/
structure WeederKeeps (w : Work) (v v' : Wsq) : Prop where
  stall : (∀ b, w ≠ .weederWithheld b) → v'.stall = v.stall
  fault : (∀ b, w ≠ .weederWithheld b) → w ≠ .weederEnd → v'.fault = v.fault
  cleared : w ≠ .weederEnd → ∀ c, v.clearedPast c → v'.clearedPast c

/-- Only a reason that joins it and the end of a pass change the withheld set; only the latter takes the cleared-to position
back (R116, R120, R127). -/
theorem handle_weederKeeps (w : Work) (s : State) : WeederKeeps w s.wsq (handle w s).1.wsq := by
  have same : WeederKeeps w s.wsq s.wsq := ⟨fun _ => rfl, fun _ _ => rfl, fun _ _ h => h⟩
  cases hc : w.changesWsq with
  | false => rw [(handle_leaves w s).wsq hc]; exact same
  | true =>
    cases w
    case weederWithheld b =>
      refine ⟨fun n => absurd rfl (n b), fun n => absurd rfl (n b), fun _ c h => ?_⟩
      simp only [handle, wsqWithheld]
      repeat' split
      all_goals exact h
    case weederEnd => exact ⟨fun _ => rfl, fun _ n => absurd rfl n, fun n => absurd rfl n⟩
    case rebuild =>
      exact ⟨fun _ => (raiseCleared_withheld ..).1, fun _ _ => (raiseCleared_withheld ..).2, fun _ c h => h.raises _ _⟩
    case overflow full =>
      simp only [handle, wsqOverflow]
      repeat' split
      · exact ⟨fun _ => rfl, fun _ _ => rfl, fun _ _ h => h⟩
      · exact ⟨fun _ => (raisePastCaptures_withheld s).1, fun _ _ => (raisePastCaptures_withheld s).2,
          fun _ c h => raisePastCaptures_clearedPast h⟩
      · exact same
    case fire =>
      simp only [handle, wsqFire]
      repeat' split
      · exact ⟨fun _ => rfl, fun _ _ => rfl, fun _ _ h => h⟩
      · exact ⟨fun _ => rfl, fun _ _ => rfl, fun _ c h => h.raise _⟩
      · exact same
    case permission k =>
      cases k
      case weeder =>
        simp only [handle, wsqDrive]
        repeat' split
        all_goals exact ⟨fun _ => rfl, fun _ _ => rfl, fun _ _ h => h⟩
      all_goals cases hc
    case answer r a =>
      cases r
      · cases a <;> simp only [handle, wsqAnswer]
        all_goals
          repeat' split
          all_goals exact ⟨fun _ => rfl, fun _ _ => rfl, fun _ _ h => h⟩
      · cases hc
    case drive | fireEnd | immediate | queueTrunk | queueFull | arm | weederStop | startEnd =>
      simp only [handle, wsqDrive, wsqFireEnd, wsqImmediate, wsqQueueTrunk, wsqQueueFull, wsqArm, wsqStop, mlkStartEnd]
      repeat' split
      all_goals exact ⟨fun _ => rfl, fun _ _ => rfl, fun _ _ h => h⟩
    all_goals cases hc

/-! ### What LOCKOUT leaves as it is (R127, R149, R197, R198) -/

theorem handle_powered (w : Work) (s : State) : (handle w s).1.powered = s.powered := by
  by_cases p : plain [w] = true
  · exact (handle_base w s p).powered
  · cases w
    case profileTaken q n => rfl
    case recover =>
      simp only [handle, stuRecover]
      repeat' split
      all_goals rfl
    case frameIn f =>
      simp only [handle, mlkFrameIn]
      repeat' split
      all_goals rfl
    all_goals exact absurd rfl p

/-- What stays as it is in LOCKOUT: the mode, the supply, the messages sent to the head, the head, the arm and its deadline. -/
structure LockoutFrame where
  powered : Bool
  mode : Mode
  sent : List Pair
  head : Head
  arm : Option ArmState
  deadline : Option Nat

/-- What a state holds of what LOCKOUT leaves as it is. -/
def State.lockoutFrame (s : State) : LockoutFrame :=
  ⟨s.powered, s.mode, s.out.headTxd, s.prs.head, s.wsq.arm, s.wsq.deadline⟩

theorem takeFrame_lockoutFrame (f : Frame) (s : State) : (takeFrame f s).lockoutFrame = s.lockoutFrame := by
  rw [takeFrame_eq]; rfl

/-- No output is driven in LOCKOUT, so no hand-off there moves the arm or sends the head a target (R127, R149, R197). -/
theorem handle_lockoutFrame {w : Work} (m : s.mode = .lockout) (n : w ≠ .startEnd) :
    (handle w s).1.lockoutFrame = s.lockoutFrame := by
  have off : s.drives = false := drives_off (.inr (.inr m))
  have mode : (handle w s).1.mode = s.mode := (handle_mode n).elim id fun h => h.trans m.symm
  have head : (handle w s).1.headLink = s.headLink := by
    by_cases i : ∃ p, w = .issue p
    · obtain ⟨p, rfl⟩ := i
      simp [handle, prsIssue, off]
    · exact handle_headLink fun p e => i ⟨p, e⟩
  have arm : (handle w s).1.wsq.arm = s.wsq.arm ∧ (handle w s).1.wsq.deadline = s.wsq.deadline := by
    cases hc : w.changesArm with
    | false => exact (handle_leaves w s).arm hc
    | true =>
      cases w
      case arm a => simp [handle, wsqArm, off]
      case startEnd => exact absurd rfl n
      all_goals cases hc
  obtain ⟨same, sent⟩ := Prod.mk.inj head
  simp only [State.lockoutFrame, handle_powered, mode, same, sent, arm]

theorem LockoutFrame.mode_eq (e : u.lockoutFrame = s.lockoutFrame) : u.mode = s.mode :=
  congrArg LockoutFrame.mode e

/-- The hand-offs of a step in LOCKOUT. -/
theorem cascade_lockoutFrame {ws : List Work} (m : s.mode = .lockout) (e : u.lockoutFrame = s.lockoutFrame)
    (n : Work.startEnd ∉ ws) : (cascade ws u).lockoutFrame = s.lockoutFrame :=
  run_within (P := fun v => v.lockoutFrame = s.lockoutFrame) (W := (· ≠ .startEnd))
    (fun _ _ hw e => (handle_lockoutFrame ((LockoutFrame.mode_eq e).trans m) hw).trans e)
    (fun _ _ _ e v hv h =>
      startEnd_not_mem (by rw [LockoutFrame.mode_eq e, m]; exact Mode.noConfusion) (h ▸ hv))
    (fun _ e => e) _ ws u (fun _ hw h => n (h ▸ hw)) e

/-! ### The rows in LOCKOUT -/

theorem live_lockoutFrame {f : State → State} (h : live f u = .next t) (e : u.lockoutFrame = s.lockoutFrame)
    (hf : (f u).lockoutFrame = s.lockoutFrame) : t.lockoutFrame = s.lockoutFrame :=
  live_keeps (P := fun v => v.lockoutFrame = s.lockoutFrame) h e hf

theorem serve_lockoutFrame {f : Frame} {act : State → State} (h : serve f act s = .next t) (m : s.mode = .lockout)
    (ha : (act (takeFrame f s)).lockoutFrame = s.lockoutFrame) : t.lockoutFrame = s.lockoutFrame := by
  refine live_lockoutFrame h rfl ?_
  repeat' split
  · exact ha
  · rfl
  · exact cascade_lockoutFrame m rfl (by simp)

/-- A command whose body leaves the frame as it is and hands nothing of STARTUP's end on. -/
theorem command_lockoutFrame {kind : Nat} {tag : Byte} {payload : List Byte} {inMode : State → Bool} {l : Bool}
    {body : State → Except Reason Accepted} (h : command kind tag payload inMode l body s = .next t) (m : s.mode = .lockout)
    (hb : ∀ u a, body u = .ok a → a.1.lockoutFrame = u.lockoutFrame ∧ Work.startEnd ∉ a.2.1) :
    t.lockoutFrame = s.lockoutFrame := by
  refine serve_lockoutFrame h m ?_
  have taken := takeFrame_lockoutFrame ⟨BitVec.ofNat 8 kind, tag, payload⟩ s
  simp only [answer]
  repeat' split
  · exact taken
  · exact taken
  · exact taken
  · next a ha =>
    obtain ⟨same, noStart⟩ := hb _ a ha
    exact cascade_lockoutFrame m (same.trans taken) noStart

/-- The commands taken in LOCKOUT. -/
inductive LogCommand : Instr → Prop where
  | status (g) (p) : LogCommand (.status g p)
  | logStatus (g) (p) : LogCommand (.logStatus g p)
  | logRead (g) (p) : LogCommand (.logRead g p)
  | logRelease (g) (p) (ok) : LogCommand (.logRelease g p ok)
  | regRead (g) (p) : LogCommand (.regRead g p)

/-- A command whose row in LOCKOUT is a refusal by mode (R198, R201). -/
def Barred (i : Instr) (f : Frame) (s : State) : Prop :=
  ∃ act, exec i s = serve f act s ∧ ∀ u : State, u.mode = .lockout → act u = refuse f .wrongMode u

/-- Commands that LOCKOUT's mode test keeps out. -/
theorem barred_of_inMode {i : Instr} {kind : Nat} {tag : Byte} {payload : List Byte} {inMode : State → Bool} {l : Bool}
    {body : State → Except Reason Accepted} (e : exec i s = command kind tag payload inMode l body s)
    (off : ∀ u : State, u.mode = .lockout → inMode u = false) : Barred i ⟨BitVec.ofNat 8 kind, tag, payload⟩ s :=
  ⟨_, e, fun u m => by rw [answer_mode _ _ (off u m), m]; rfl⟩

theorem inIdle_lockout (u : State) (m : u.mode = .lockout) : u.inIdle = false := by rw [State.inIdle, m]; rfl

theorem inIdlePass_lockout (u : State) (m : u.mode = .lockout) : u.inIdlePass = false := by rw [State.inIdlePass, m]; rfl

theorem inPass_lockout (u : State) (m : u.mode = .lockout) : u.inPass = false := by
  rw [State.inPass, show u.psc.mode = .lockout from m]; rfl

theorem command_barred {i : Instr} {f : Frame} (hf : frameOf i = some f) (s : State) : LogCommand i ∨ Barred i f s := by
  cases i <;> cases hf
  case status | logStatus | logRead | logRelease | regRead => exact .inl (by constructor)
  case reset => exact .inr ⟨_, by unfold exec execReset; rfl, fun u m => by simp [m]⟩
  case wake => exact .inr (barred_of_inMode rfl fun u m => by rw [m]; rfl)
  case fill => exact .inr (barred_of_inMode rfl fun u m => by rw [inIdlePass_lockout u m]; rfl)
  case passHold | passResume | passClose | toolSet => exact .inr (barred_of_inMode rfl inPass_lockout)
  case park | profileWrite | mapClear | passOpen => exact .inr (barred_of_inMode rfl inIdle_lockout)
  all_goals exact .inr (barred_of_inMode rfl inIdlePass_lockout)

/-- A command whose kind is none of LOCKOUT's. -/
theorem barred_of_kind {i : Instr} {f : Frame} (hf : frameOf i = some f) (n : f.kind ∉ lockoutKinds) : Barred i f s := by
  refine (command_barred hf s).resolve_left fun k => n ?_
  cases k <;> cases hf <;> simp [lockoutKinds]

/-- The events of the arm, the head, the pruner's timers and the flow meter. -/
inductive ToolEvent : Instr → Prop where
  | armExt (b) : ToolEvent (.armExt b)
  | armRet (b) : ToolEvent (.armRet b)
  | armDeadlineExpiry : ToolEvent .armDeadlineExpiry
  | simArmMoveDone : ToolEvent .simArmMoveDone
  | headInpos (b) : ToolEvent (.headInpos b)
  | headDeadlineExpiry : ToolEvent .headDeadlineExpiry
  | simHeadMoveDone : ToolEvent .simHeadMoveDone
  | phaseTimerExpiry : ToolEvent .phaseTimerExpiry
  | stepWaitExpiry : ToolEvent .stepWaitExpiry
  | flowPulse : ToolEvent .flowPulse

theorem toolEvent_lockoutFrame {i : Instr} (h : exec i s = .next t) (k : ToolEvent i) (m : s.mode = .lockout) :
    t.lockoutFrame = s.lockoutFrame := by
  have off : s.drives = false := drives_off (.inr (.inr m))
  cases k
  case headInpos b =>
    simp only [exec, execHeadInpos] at h
    refine live_lockoutFrame h rfl ?_
    rw [if_neg (by simp [State.headTakes, State.drives, State.mode, show s.psc.mode = .lockout from m])]
    rfl
  case headDeadlineExpiry =>
    simp only [exec, execHeadDeadlineExpiry] at h
    refine live_lockoutFrame h rfl ?_
    split
    · rw [if_neg (by simp [State.armTakes, off])]
    · rfl
  case armExt | armRet | armDeadlineExpiry | simArmMoveDone | simHeadMoveDone | phaseTimerExpiry | stepWaitExpiry |
    flowPulse =>
    simp only [exec, execArmExt, execArmRet, execArmDeadlineExpiry, execSimArmMoveDone, execSimHeadMoveDone,
      execPhaseTimerExpiry, execStepWaitExpiry, execFlowPulse] at h
    refine live_lockoutFrame h rfl ?_
    repeat' split
    all_goals first
      | exact cascade_lockoutFrame m rfl (by simp)
      | rfl

/-- The events of the link, of KEY and of CEIL. -/
inductive LinkEvent : Instr → Prop where
  | silenceExpiry : LinkEvent .silenceExpiry
  | secondsTick : LinkEvent .secondsTick
  | keyChange (b) : LinkEvent (.keyChange b)
  | validFrame (k) (g) (p) : LinkEvent (.validFrame k g p)
  | frameDiscard (r) (b) : LinkEvent (.frameDiscard r b)
  | frameGapTimeout : LinkEvent .frameGapTimeout
  | frameSent : LinkEvent .frameSent
  | byteReceived (b) : LinkEvent (.byteReceived b)
  | unknownKind (k) (g) (p) : LinkEvent (.unknownKind k g p)
  | ceilPeriodStart : LinkEvent .ceilPeriodStart

/-- What the receiver finds hands on no end of STARTUP (R200). -/
theorem rxWork_ne_startEnd (e : RxEvent) : e.work ≠ .startEnd := by cases e <;> exact Work.noConfusion

theorem linkEvent_lockoutFrame {i : Instr} (h : exec i s = .next t) (k : LinkEvent i) (m : s.mode = .lockout) :
    t.lockoutFrame = s.lockoutFrame := by
  cases k
  case unknownKind k tag p =>
    simp only [exec, execUnknownKind] at h
    split at h
    · exact live_lockoutFrame h rfl rfl
    · exact serve_lockoutFrame h m (takeFrame_lockoutFrame _ s)
  case silenceExpiry | secondsTick | keyChange | validFrame | frameDiscard | frameGapTimeout | frameSent | byteReceived |
    ceilPeriodStart =>
    simp only [exec, execSilenceExpiry, execSecondsTick, execKeyChange, execValidFrame, execFrameDiscard,
      execFrameGapTimeout, execFrameSent, execByteReceived, execCeilPeriodStart, State.received] at h
    refine live_lockoutFrame h rfl ?_
    repeat' split
    all_goals first
      | exact cascade_lockoutFrame m rfl (by simp [rxWork_ne_startEnd])
      | rfl

/-- The events of the start-up and of the store. -/
inductive StoreEvent : Instr → Prop where
  | profileCheckDone : StoreEvent .profileCheckDone
  | logScanDone : StoreEvent .logScanDone
  | regScanDone : StoreEvent .regScanDone
  | storeOperationBegin : StoreEvent .storeOperationBegin
  | recordWriteBegin : StoreEvent .recordWriteBegin
  | recordWriteAttemptDone (ok) : StoreEvent (.recordWriteAttemptDone ok)
  | regProgramPartDone (ok) : StoreEvent (.regProgramPartDone ok)
  | profileWriteComplete (ok) : StoreEvent (.profileWriteComplete ok)

/-- What ends a store operation changes the store and the log and hands on no end of STARTUP (R178, R179, R186, R207). -/
theorem attemptDone_lockoutFrame (ok : Bool) (r : SprayRecord) (n : Nat) (cut : Bool) (s : State) :
    let x := if ok then lgsWritten r s else lgsAttemptFailed r n cut s
    x.1.lockoutFrame = s.lockoutFrame ∧ Work.startEnd ∉ x.2 := by
  simp only [lgsWritten, lgsAttemptFailed]
  repeat' split
  all_goals exact ⟨rfl, by simp⟩

theorem partDone_lockoutFrame (ok : Bool) (n : Nat) (image : List Byte) (part : RegPart) (cut : Bool) (s : State) :
    let x := if ok then lgsPartDone n image part cut s else lgsPartFailed n part s
    x.1.lockoutFrame = s.lockoutFrame ∧ Work.startEnd ∉ x.2 := by
  cases ok <;> cases part <;> exact ⟨rfl, by simp [lgsPartDone, lgsPartFailed]⟩

theorem profileWritten_lockoutFrame (image : List Byte) (crc : Nat) (ok : Bool) (s : State) :
    (s.profileWritten image crc ok).1.lockoutFrame = s.lockoutFrame ∧
      Work.startEnd ∉ (s.profileWritten image crc ok).2 := by
  unfold State.profileWritten
  exact ⟨rfl, by split <;> simp⟩

theorem storeEvent_lockoutFrame {i : Instr} (h : exec i s = .next t) (k : StoreEvent i) (m : s.mode = .lockout) :
    t.lockoutFrame = s.lockoutFrame := by
  cases k
  case recordWriteAttemptDone ok =>
    simp only [exec, execRecordWriteAttemptDone] at h
    refine live_lockoutFrame h rfl ?_
    split
    · exact cascade_lockoutFrame m (attemptDone_lockoutFrame ..).1 (attemptDone_lockoutFrame ..).2
    all_goals rfl
  case regProgramPartDone ok =>
    simp only [exec, execRegProgramPartDone] at h
    refine live_lockoutFrame h rfl ?_
    split
    · exact cascade_lockoutFrame m (partDone_lockoutFrame ..).1 (partDone_lockoutFrame ..).2
    all_goals rfl
  case profileWriteComplete ok =>
    simp only [exec, execProfileWriteComplete] at h
    refine live_lockoutFrame h rfl ?_
    split
    · exact cascade_lockoutFrame m (profileWritten_lockoutFrame ..).1 (profileWritten_lockoutFrame ..).2
    all_goals rfl
  case profileCheckDone | logScanDone | regScanDone | storeOperationBegin | recordWriteBegin =>
    simp only [exec, execProfileCheckDone, execLogScanDone, execRegScanDone, execStoreOperationBegin,
      execRecordWriteBegin] at h
    refine live_lockoutFrame h rfl ?_
    split
    all_goals first
      | exact cascade_lockoutFrame m rfl (by simp)
      | rfl

/-- The events of the sensor, of the encoder and of the captures. -/
inductive SensorEvent : Instr → Prop where
  | samplePeriod (r) : SensorEvent (.samplePeriod r)
  | staleTimerExpiry : SensorEvent .staleTimerExpiry
  | lostTimerExpiry : SensorEvent .lostTimerExpiry
  | recoveryExpiry : SensorEvent .recoveryExpiry
  | encoderTransition (a) (b) : SensorEvent (.encoderTransition a b)
  | speedRecord : SensorEvent .speedRecord
  | postCapture : SensorEvent .postCapture
  | feelerCapture : SensorEvent .feelerCapture

theorem sensorEvent_lockoutFrame {i : Instr} (h : exec i s = .next t) (k : SensorEvent i) (m : s.mode = .lockout) :
    t.lockoutFrame = s.lockoutFrame := by
  have no : s.inPass = false := by simp [State.inPass, show s.psc.mode = .lockout from m]
  cases k
  case postCapture =>
    simp only [exec, execPostCapture] at h
    exact live_lockoutFrame h rfl (by simp [no])
  case feelerCapture =>
    simp only [exec, execFeelerCapture] at h
    exact live_lockoutFrame h rfl (by simp [(not_inPass no).2])
  case samplePeriod | staleTimerExpiry | lostTimerExpiry | recoveryExpiry | encoderTransition | speedRecord =>
    simp only [exec, execSamplePeriod, State.takeSample, execStaleTimerExpiry, execLostTimerExpiry, execRecoveryExpiry,
      execEncoderTransition, execSpeedRecord] at h
    refine live_lockoutFrame h rfl ?_
    repeat' split
    all_goals first
      | exact cascade_lockoutFrame m rfl (by simp)
      | rfl

/-- Every event but those of the supply and the RESET# line. -/
theorem event_lockoutFrame {i : Instr} (h : exec i s = .next t) (n : endsModes i = false) (hf : frameOf i = none)
    (m : s.mode = .lockout) : t.lockoutFrame = s.lockoutFrame := by
  cases i
  case powerOn | powerLoss | resetLine => cases n
  case armExt | armRet | armDeadlineExpiry | simArmMoveDone | headInpos | headDeadlineExpiry | simHeadMoveDone |
    phaseTimerExpiry | stepWaitExpiry | flowPulse => exact toolEvent_lockoutFrame h (by constructor) m
  case silenceExpiry | secondsTick | keyChange | validFrame | frameDiscard | frameGapTimeout | frameSent | byteReceived |
    unknownKind | ceilPeriodStart => exact linkEvent_lockoutFrame h (by constructor) m
  case profileCheckDone | logScanDone | regScanDone | storeOperationBegin | recordWriteBegin | recordWriteAttemptDone |
    regProgramPartDone | profileWriteComplete => exact storeEvent_lockoutFrame h (by constructor) m
  case samplePeriod | staleTimerExpiry | lostTimerExpiry | recoveryExpiry | encoderTransition | speedRecord | postCapture |
    feelerCapture => exact sensorEvent_lockoutFrame h (by constructor) m
  all_goals cases hf

/-- The commands of LOCKOUT read, but for LOG_RELEASE, which frees records (R183, R198). -/
theorem logCommand_lockoutFrame {i : Instr} (h : exec i s = .next t) (k : LogCommand i) (m : s.mode = .lockout) :
    t.lockoutFrame = s.lockoutFrame := by
  cases k
  all_goals
    refine command_lockoutFrame h m fun u a ha => ?_
    simp only [reads] at ha
    repeat' split at ha
    all_goals
      cases ha
    all_goals exact ⟨rfl, by simp⟩

/-- A command that LOCKOUT bars leaves all but the link as it is: refused, or held behind an older frame (R198, R201). -/
theorem Barred.lockoutFrame {i : Instr} {f : Frame} (b : Barred i f s) (h : exec i s = .next t) (m : s.mode = .lockout) :
    t.lockoutFrame = s.lockoutFrame := by
  obtain ⟨act, serves, refuses⟩ := b
  refine serve_lockoutFrame (serves ▸ h) m ?_
  rw [refuses _ ((takeFrame_mode f s).trans m)]
  exact takeFrame_lockoutFrame f s

/-- Every row but the supply and the RESET# line leaves the frame of LOCKOUT as it is (R197, R198). -/
theorem exec_lockoutFrame {i : Instr} (h : exec i s = .next t) (n : endsModes i = false) (m : s.mode = .lockout) :
    t.lockoutFrame = s.lockoutFrame := by
  match hf : frameOf i with
  | none => exact event_lockoutFrame h n hf m
  | some f => exact (command_barred hf s).elim (logCommand_lockoutFrame h · m) (·.lockoutFrame h m)

/-! ### A repeated fault (R195, R196, R197) -/

/-- What an arm without its switch hands on, the IN switch asserted or not (R123). -/
def State.stallWorks (s : State) : List Work :=
  [.reload .weeder, .weederWithheld true,
    .occur .armTimeout (.minor (.arm (s.wsq.arm.getD .stalled) s.odu.rpc s.profile.armTime))] ++
    if s.pins.armRet then [.arm .retracted] else []

theorem handle_arm_stalls (t : s.armTakes = true) : handle (.arm .stalled) s = (s.withArm .stalled, s.stallWorks) := by
  obtain ⟨d, m⟩ := armTakes_iff.1 t
  simp [handle, wsqArm, d, m, State.withArm, State.stallWorks]

theorem handle_weederWithheld_stall (b : Bool) :
    (handle (.weederWithheld b) s).1.wsq.stall = (b || s.wsq.stall) := by
  simp only [handle, wsqWithheld]
  split <;> cases b <;> rfl

/-- The hand-offs from a repeated arm timeout to LOCKOUT. -/
inductive Work.Escalates : Work → Prop where
  | timeout (d) : Escalates (.occur .armTimeout (.minor d))
  | major (c) (o) : Escalates (.major c o)
  | majorFlag (c) (o) (m) : Escalates (.majorFlag c o m)
  | enterLockout : Escalates .enterLockout

/-- Both flags SET in IDLE: each hand-off of the escalation hands the next on, and the last one locks the part out. -/
theorem handle_escalates {w : Work} (e : w.Escalates) (m : s.mode = .idle)
    (timeout : (s.cdu.flags.get .armTimeout).isSet = true) (major : (s.cdu.flags.get .faultMajor).isSet = true) :
    (handle w s).1.mode = .lockout ∨ ∃ v ∈ (handle w s).2, v.Escalates := by
  have set : s.cdu.flags.faultMajor.isSet = true := major
  cases e
  case timeout d =>
    exact .inr ⟨.major .weeder (.repeated d), by simp [handle, cduOccur, Flag.minorCause, timeout], .major ..⟩
  case major c o => exact .inr ⟨.majorFlag c o s.mode, by simp [handle, cduMajor], .majorFlag ..⟩
  case majorFlag c o k => exact .inr ⟨.enterLockout, by simp [handle, cduMajorFlag, set, m], .enterLockout⟩
  case enterLockout => exact .inl rfl

/-- On the way to LOCKOUT from IDLE with both flags SET: the escalation and the weeder's STALL come, or have come. -/
structure Escalating (s : State) (ws : List Work) : Prop where
  noStart : Work.startEnd ∉ ws
  timeout : (s.cdu.flags.get .armTimeout).isSet = true
  major : (s.cdu.flags.get .faultMajor).isSet = true
  mode : s.mode = .lockout ∨ s.mode = .idle ∧ ∃ v ∈ ws, v.Escalates
  stall : s.wsq.stall = true ∨ Work.weederWithheld true ∈ ws

theorem Escalating.handle {w : Work} {ws : List Work} (h : Escalating s (w :: ws)) :
    Escalating (handle w s).1 ((handle w s).2 ++ ws) where
  noStart := by
    have live : s.mode ≠ .startup := by rcases h.mode with m | ⟨m, -⟩ <;> rw [m] <;> exact Mode.noConfusion
    simpa using ⟨startEnd_not_mem live, fun k => h.noStart (List.mem_cons_of_mem _ k)⟩
  timeout := handle_isSet w _ h.timeout
  major := handle_isSet w _ h.major
  mode := by
    have n : w ≠ .startEnd := fun e => h.noStart (e ▸ List.mem_cons_self ..)
    rcases handle_mode n with same | locked
    · rcases h.mode with m | ⟨m, v, hv, e⟩
      · exact .inl (same.trans m)
      · rcases List.mem_cons.1 hv with rfl | hv
        · exact (handle_escalates e m h.timeout h.major).imp_right
            fun ⟨x, hx, ex⟩ => ⟨same.trans m, x, List.mem_append_left _ hx, ex⟩
        · exact .inr ⟨same.trans m, v, List.mem_append_right _ hv, e⟩
    · exact .inl locked
  stall := by
    by_cases k : ∃ b, w = .weederWithheld b
    · obtain ⟨b, rfl⟩ := k
      rw [handle_weederWithheld_stall]
      rcases h.stall with set | hw
      · exact .inl (by rw [set, Bool.or_true])
      · rcases List.mem_cons.1 hw with e | hw
        · cases e; exact .inl rfl
        · exact .inr (List.mem_append_right _ hw)
    · have same := (handle_weederKeeps w s).stall fun b e => k ⟨b, e⟩
      refine h.stall.imp same.trans fun hw => List.mem_append_right _ ?_
      exact (List.mem_cons.1 hw).resolve_left fun e => k ⟨true, e.symm⟩

theorem escalating_stallWorks (m : s.mode = .idle) (timeout : (s.cdu.flags.get .armTimeout).isSet = true)
    (major : (s.cdu.flags.get .faultMajor).isSet = true) : Escalating (s.withArm .stalled) (s.stallWorks ++ []) where
  noStart := by unfold State.stallWorks; split <;> simp
  timeout := timeout
  major := major
  mode := .inr ⟨m, .occur .armTimeout (.minor (.arm (s.wsq.arm.getD .stalled) s.odu.rpc s.profile.armTime)),
    by simp [State.stallWorks], .timeout _⟩
  stall := .inr (by simp [State.stallWorks])

/-- Once the hand-offs are done the part is in LOCKOUT with STALL in the withheld set; it is not only where the mark of the
hand-off bound is set (log 17). -/
theorem Escalating.run {ws : List Work} (n : Nat) (h : Escalating s ws) (o : (run n ws s).overrun = false) :
    (Machine.run n ws s).mode = .lockout ∧ (Machine.run n ws s).wsq.stall = true := by
  rcases run_induct (P := Escalating) (fun _ _ _ => Escalating.handle) n ws s h with q | ⟨v, _, -, e⟩
  · exact ⟨q.mode.resolve_right fun ⟨_, v, hv, _⟩ => absurd hv List.not_mem_nil, q.stall.resolve_right List.not_mem_nil⟩
  · rw [e] at o; cases o

/-- Settles O21: in LOCKOUT nothing is driven, so no row and no hand-off of it touches the mode, the head or the arm; and a
second arm timeout with both flags SET escalates until LOCKOUT is entered. -/
theorem lockoutIsAbsorbing : Obligations.LockoutIsAbsorbing := by
  have quiet {i : Instr} {s t : State} (h : exec i s = .next t) (p : t.powered = true) (m : t.mode = .lockout) :
      t.out.quiet = true := exec_pins i h p ▸ pinsOut_quiet (drives_off (.inr (.inr m)))
  refine ⟨⟨?absorbs, ?bars⟩, ?repeated⟩
  case absorbs =>
    intro s t i rest first n hp m h
    have row : exec i { s with pending := rest } = .next t := by simpa [step, first] using h
    have same := exec_lockoutFrame row n m
    have powered : t.powered = true := (congrArg LockoutFrame.powered same).trans hp
    have mode : t.mode = .lockout := (LockoutFrame.mode_eq same).trans m
    exact ⟨powered, mode, quiet row powered mode, congrArg LockoutFrame.sent same, congrArg LockoutFrame.head same,
      congrArg LockoutFrame.arm same, congrArg LockoutFrame.deadline same⟩
  case bars =>
    intro f i s hf hp m ht n
    obtain ⟨act, serves, refuses⟩ := barred_of_kind (s := s) hf n
    rw [serves, serve_takes f s hp ht, refuses _ ((takeFrame_mode f s).trans m)]
    rfl
  case repeated =>
    intro s d hp m hd a timeout major
    have takes : s.armTakes = true :=
      armTakes_iff.2 ⟨drives_iff.2 (.inl m), by simp [State.simMotion, State.rehearsal, not_inPass_of_idle m]⟩
    have row := exec_armDeadlineExpiry hp hd takes a
    have done (o : (cascade [.arm .stalled] (s.advance d)).overrun = false) :
        (cascade [.arm .stalled] (s.advance d)).mode = .lockout ∧ (cascade [.arm .stalled] (s.advance d)).wsq.stall = true := by
      rw [cascade_eq, run_one (handle_arm_stalls (s := s.advance d) takes)] at o ⊢
      exact (escalating_stallWorks (s := s.advance d) m timeout major).run _ o
    have powered : (cascade [.arm .stalled] (s.advance d)).finish.powered = true :=
      (cascade_base _ _ rfl).powered.trans hp
    exact ⟨_, row, fun o => (done o).1, quiet row powered, fun o => (done o).2⟩

end Sys2Proof.Machine

/-! PROOFS. The blade (R125). -/

namespace Sys2Proof.Machine

variable {s t : State}

theorem running_iff : s.running = true ↔ s.mode = .pass ∧ ∃ p, s.psc.pass = some p ∧ p.suspension = none := by
  simp [State.running, State.inPass, State.mode, Option.any_eq_true]

theorem bladeCommanded_iff : s.bladeCommanded = true ↔
    (s.armNow = some .extending ∨ s.armNow = some .extended) ∧ s.running = true := by
  rw [State.bladeCommanded, Bool.and_eq_true, armIsOut_iff]

theorem pinsOut_blade (s : State) : s.pinsOut.blade = (s.drives && s.bladeCommanded && !s.simTools) := rfl

/-- A blade that is commanded on in a RUNNING pass is in a mode that drives outputs, so TOOLS simulated alone holds it off. -/
theorem pinsOut_blade_iff : s.pinsOut.blade = true ↔ s.bladeCommanded = true ∧ s.rehearsal < 2 := by
  rw [pinsOut_blade, Bool.and_eq_true, Bool.and_eq_true, Bool.not_eq_true', simTools_off]
  exact and_congr_left fun _ => and_iff_right_of_imp fun h => running_drives (bladeCommanded_iff.1 h).2

theorem takeFrame_armNow (f : Frame) : (takeFrame f s).armNow = s.armNow := by rw [takeFrame_eq]; rfl

theorem takeFrame_rehearsal (f : Frame) : (takeFrame f s).rehearsal = s.rehearsal := by rw [takeFrame_eq]; rfl

/-- Settles O17: the pin at the end of every row is the one the blocks drive, and WEEDER_READ gives it beside the commanded
state. -/
theorem bladeOutput : Obligations.BladeOutput := by
  refine ⟨fun i s t h on => ?pin, fun tag s hp hm ht => ⟨_, exec_weederRead hp hm ht, ?commanded, ?simulated, ?driven⟩⟩
  case pin => rw [exec_pins i h on, pinsOut_blade_iff, bladeCommanded_iff, running_iff, and_assoc, and_assoc]
  case commanded =>
    change State.bladeCommanded _ = true ↔ _
    rw [bladeCommanded_iff, takeFrame_armNow, takeFrame_running]
  case simulated =>
    intro simulated
    refine Bool.eq_false_iff.2 fun on => ?_
    have live := (pinsOut_blade_iff.1 on).2
    rw [takeFrame_rehearsal] at live
    exact absurd live (Nat.not_lt.2 simulated)
  case driven =>
    intro live
    refine Bool.eq_iff_iff.2 (pinsOut_blade_iff.trans (and_iff_left ?_))
    rw [takeFrame_rehearsal]
    exact live

end Sys2Proof.Machine

/-! PROOFS. WEEDER_RECOVER: what the drive condition evaluated after it leaves of the withheld set (R120, R124). -/

namespace Sys2Proof.Machine

variable {s t : State}

/-! ### The withheld set and the cleared-to position over a step -/

/-- What the hand-offs between blocks leave of the weeder's withheld set and its cleared-to position, from the state before to
the state after them. -/
structure WithheldKept (v v' : Wsq) : Prop where
  stall : v'.stall = v.stall
  fault : v'.fault = v.fault
  cleared : ∀ c, v.clearedPast c → v'.clearedPast c

theorem WithheldKept.trans {v v' v'' : Wsq} (a : WithheldKept v v') (b : WithheldKept v' v'') : WithheldKept v v'' :=
  ⟨b.stall.trans a.stall, b.fault.trans a.fault, fun c h => b.cleared c (a.cleared c h)⟩

theorem inner_withheldKept {w : Work} (k : w.inner true = true) : WithheldKept s.wsq (handle w s).1.wsq := by
  have keeps := handle_weederKeeps w s
  have noReason : ∀ b, w ≠ .weederWithheld b := fun b e => by rw [e] at k; cases k
  have noEnd : w ≠ .weederEnd := fun e => by rw [e] at k; cases k
  exact ⟨keeps.stall noReason, keeps.fault noReason noEnd, keeps.cleared noEnd⟩

theorem run_withheldKept {n : Nat} {ws : List Work} (h : Inner true s ws) : WithheldKept s.wsq (run n ws s).wsq := by
  rcases run_induct (P := fun u ws => Inner true u ws ∧ WithheldKept s.wsq u.wsq)
      (fun _ _ _ ⟨i, k⟩ => ⟨i.step, k.trans (inner_withheldKept i.head)⟩) n ws s
      ⟨h, rfl, rfl, fun _ c => c⟩ with ⟨-, k⟩ | ⟨u, _, ⟨-, k⟩, e⟩
  · exact k
  · rw [e]; exact k

/-! ### STALL taken away -/

theorem recoverWeeder_without (h : s.wsq.stall = false) : s.recoverWeeder = s := by simp [State.recoverWeeder, h]

theorem recoverWeeder_outside (h : s.wsq.stall = true) (o : s.inPass = false) :
    s.recoverWeeder = { s with wsq := { s.wsq with stall := false } } := by
  simp [State.recoverWeeder, h, o]

theorem recoverWeeder_empties (h : s.wsq.stall = true) (i : s.inPass = true) (f : s.wsq.fault = false) :
    s.recoverWeeder = { s with wsq := { s.raisePastCaptures with stall := false, intent := .armOut } } := by
  simp [State.recoverWeeder, h, i, f]

/-- Whatever the set's other reason, the Weeder Sequencer alone changes. -/
theorem recoverWeeder_wsq (s : State) : s.recoverWeeder = { s with wsq := s.recoverWeeder.wsq } := by
  unfold State.recoverWeeder
  repeat' split
  all_goals rfl

theorem recoverWeeder_base (s : State) : SameBase s s.recoverWeeder := by
  rw [recoverWeeder_wsq]; constructor <;> rfl

theorem recoverWeeder_stall (s : State) : s.recoverWeeder.wsq.stall = false := by
  unfold State.recoverWeeder
  split
  · next h => simpa using h
  · split <;> rfl

theorem recoverWeeder_fault (s : State) : s.recoverWeeder.wsq.fault = s.wsq.fault := by
  unfold State.recoverWeeder
  repeat' split
  · rfl
  · exact (raisePastCaptures_withheld s).2
  · rfl

theorem recoverWeeder_clearedPast {p : Nat} (h : s.wsq.stall = true) (i : s.inPass = true) (f : s.wsq.fault = false)
    (c : s.ttr.spacing = some p) : s.recoverWeeder.wsq.clearedPast (p + s.profile.bladeLag + s.profile.clearAfter) := by
  rw [recoverWeeder_empties h i f, State.raisePastCaptures, c]
  exact raiseCleared_reaches s.wsq _

/-! ### The row -/

section Row
variable {tag : Byte} (hp : s.powered = true) (hm : s.mode = .idle ∨ s.mode = .pass)
  (ht : s.takes ⟨0x40#8, tag, []⟩ = true)
include hp hm ht

theorem exec_weederRecover_busy (a : s.wsq.arm ≠ some .retracted) : exec (.weederRecover tag []) s =
    .next ((takeFrame ⟨0x40#8, tag, []⟩ s).refusedWith ⟨0x40#8, tag, []⟩ .busy) :=
  command_refused (kind := 0x40) hp ht (takeFrame_inIdlePass _ hm) rfl (if_pos (by simpa using a))

theorem exec_weederRecover {t : State} (a : s.wsq.arm = some .retracted)
    (e : cascade (if s.wsq.stall then [.drive] else []) (takeFrame ⟨0x40#8, tag, []⟩ s).recoverWeeder = t) :
    exec (.weederRecover tag []) s =
      .next (t.replied ⟨0x40#8, tag, []⟩ (.weederRecover t.wsq.arm t.wsq.stall t.wsq.fault)) := by
  refine (command_ok (kind := 0x40) hp ht (takeFrame_inIdlePass _ hm) rfl (if_neg (by simp [a]))).trans ?_
  rw [takeFrame_wsq, e]

end Row

/-- Outside a pass an arm that is in stays in, with no record to withdraw. -/
theorem cascade_drive_in (o : s.inPass = false) (a : s.wsq.arm = some .retracted) (n : s.stu.weederAdm = none) :
    cascade [.drive] s = s := by
  have sim : s.simMotion = false := by simp [State.simMotion, State.rehearsal, o]
  have arm : armIsOut s.armNow = false := by rw [armNow_physical sim, a]; rfl
  have still := not_inPass o
  have drive := handle_drive_idle n arm (driveTerms_fail (.inl still.1)) (onlyPermission_off (.inl still.1))
  rw [cascade_eq, run_leaf drive, run_nil]

/-- Settles O39: the row takes STALL away, and what the drive condition then hands on is of the class that leaves the withheld
set, the flags that are SET and the cleared-to position reached. -/
theorem weederRecovery : Obligations.WeederRecovery := by
  intro tag s hp hm f ht u
  have wsq : u.wsq = s.wsq := takeFrame_wsq f s
  refine ⟨exec_weederRecover_busy hp hm ht, fun a h => ?without, fun a h => ?stalled⟩
  case without =>
    have same : cascade (if s.wsq.stall then [.drive] else []) u.recoverWeeder = u := by
      rw [h, recoverWeeder_without (by rw [wsq, h])]; rfl
    rw [exec_weederRecover hp hm ht a same, wsq, a, h]
  case stalled =>
    have marked : u.wsq.stall = true := (congrArg Wsq.stall wsq).trans h
    have works : (if s.wsq.stall then [Work.drive] else []) = [.drive] := if_pos h
    refine ⟨fun m n => ?idle, _, exec_weederRecover hp hm ht a (congrArg (cascade · _) works), ?general⟩
    case idle =>
      have outside : u.inPass = false := (takeFrame_inPass f s).trans (not_inPass_of_idle m)
      have recovered : u.recoverWeeder = { u with wsq := { s.wsq with stall := false } } := by
        rw [recoverWeeder_outside marked outside, wsq]
      have still : cascade (if s.wsq.stall then [.drive] else []) u.recoverWeeder =
          { u with wsq := { s.wsq with stall := false } } := by
        rw [works, recovered]
        exact cascade_drive_in outside a ((congrArg Stu.weederAdm (takeFrame_stu f s)).trans n)
      rw [exec_weederRecover hp hm ht a still, a]
    case general =>
      have settled : Settled true u.recoverWeeder := by
        refine ⟨fun _ => ?_, fun e => nomatch e⟩
        rw [recoverWeeder_wsq]
        change u.mode ≠ .startup
        rw [takeFrame_mode]
        rcases hm with m | m <;> rw [m] <;> exact Mode.noConfusion
      have kept : WithheldKept u.recoverWeeder.wsq (cascade [.drive] u.recoverWeeder).wsq :=
        run_withheldKept ⟨settled, fun w h => by rw [List.mem_singleton.1 h]; rfl⟩
      refine ⟨((recoverWeeder_base u).trans (cascade_base _ _ rfl)).replied _ _, kept.stall.trans (recoverWeeder_stall u),
        (kept.fault.trans (recoverWeeder_fault u)).trans (congrArg Wsq.fault wsq), fun set => ?timeout,
        fun m noFault p spacing => ?cleared⟩
      case timeout =>
        refine run_isSet _ _ _ ?_
        rw [recoverWeeder_wsq]
        exact (congrArg (fun c : Cdu => (c.flags.get .armTimeout).isSet) (takeFrame_cdu f s)).trans set
      case cleared =>
        have inside : u.inPass = true := (takeFrame_inPass f s).trans (inPass_iff.2 m)
        have reached := kept.cleared _ (recoverWeeder_clearedPast marked inside ((congrArg Wsq.fault wsq).trans noFault)
          ((congrArg Ttr.spacing (takeFrame_ttr f s)).trans spacing))
        rw [takeFrame_profile] at reached
        exact reached

end Sys2Proof.Machine

/-! PROOFS. The rows of the head: a move that ends, one without its indication, a simulated one (R135, R136, R142, R149, R151). -/

namespace Sys2Proof.Machine

variable {s : State}

/-! ### The rows of the head -/

/-- The state with the level of the in-position indication. -/
def State.pinHead (s : State) (b : Bool) : State := { s with pins := { s.pins with headInpos := b } }

/-- The physical head replaced. -/
def State.withHead (s : State) (h : Head) : State := { s with prs := { s.prs with head := h } }

/-- The simulated head replaced. -/
def State.withSimHead (s : State) (h : Head) : State := { s with prs := { s.prs with simHead := h } }

theorem exec_headInpos_level {b : Bool} (h : s.powered = true)
    (c : b = false ∨ s.pins.headInpos = true ∨ s.headTakes = false ∨ s.prs.head.state = .atTarget) :
    exec (.headInpos b) s = .next (s.pinHead b).finish := by
  simp only [exec, execHeadInpos]
  have e : (b && !s.pins.headInpos && s.headTakes && s.prs.head.state != .atTarget) = false := by
    rcases c with c | c | c | c <;> simp [c]
  exact (live_on (s := s.pinHead b) h).trans
    (congrArg (fun u : State => Host.Outcome.next u.finish) (if_neg (Bool.not_eq_true _ ▸ e)))

theorem exec_headInpos_ends (h : s.powered = true) (p : s.pins.headInpos = false) (t : s.headTakes = true)
    (n : s.prs.head.state ≠ .atTarget) : exec (.headInpos true) s =
      .next (cascade [.reload .head, .headDone] ((s.pinHead true).withHead s.prs.head.complete)).finish := by
  simp only [exec, execHeadInpos]
  have e : (true && !s.pins.headInpos && s.headTakes && s.prs.head.state != .atTarget) = true := by simp [p, t, n]
  exact (live_on (s := s.pinHead true) h).trans (congrArg (fun u : State => Host.Outcome.next u.finish) (if_pos e))

/-- A head after a move without its indication: the pair bounded, UNPLACED after a rest move (R136, log 27). -/
def Head.expired (h : Head) : Head := { h.bound with state := if h.issued == Pair.rest then .unplaced else .moving }

/-- HEAD_TIMEOUT with the targets of the move and the pair bounded (R136). -/
def State.headTimeout (s : State) : Work :=
  .occur .headTimeout (.minor (.head s.prs.head.issued s.prs.head.expired.confirmed s.odu.rpc))

/-- What a head's move without its indication hands on (R136, R137, R145). -/
def State.expiryWorks (s : State) : List Work :=
  [.reload .head, s.headTimeout] ++ (if s.prs.head.issued == Pair.rest then [] else [.rest]) ++
    (if s.stepMoving then [.endRun .abandoned] else []) ++ [.consider]

theorem exec_headDeadlineExpiry {d : Nat} (h : s.powered = true) (t : s.armTakes = true) (m : s.prs.head.state = .moving)
    (hd : s.prs.head.deadline = some d) : exec .headDeadlineExpiry s =
      .next (cascade s.expiryWorks ((s.advance d).withHead s.prs.head.expired)).finish := by
  simp only [exec, execHeadDeadlineExpiry]
  rw [live_on h]
  simp only [hd]
  exact congrArg (fun u : State => Host.Outcome.next u.finish) (if_pos (by simp [t, m]))

theorem exec_simHeadMoveDone {d : Nat} (h : s.powered = true) (sim : s.simMotion = true)
    (hd : s.prs.simHead.deadline = some d) (m : s.prs.simHead.state = .moving) : exec .simHeadMoveDone s =
      .next (cascade [.headDone] ((s.advance d).withSimHead s.prs.simHead.complete)).finish := by
  simp only [exec, execSimHeadMoveDone]
  rw [live_on h]
  simp only [hd]
  exact congrArg (fun u : State => Host.Outcome.next u.finish) (if_pos (by simp [sim, m]))

theorem expiryWorks_plain (s : State) : plain s.expiryWorks = true := by
  unfold State.expiryWorks
  split <;> split <;> rfl

theorem stepMoving_none (h : s.prs.run = none) : s.stepMoving = false := by simp [State.stepMoving, h]

/-! ### The end of a move (R142) -/

theorem handle_headDone_none (h : s.prs.run = none) : handle .headDone s = (s, [.consider]) := by
  simp [handle, prsHeadDone, h]

theorem handle_headDone_away {r : Run} (hr : s.prs.run = some r) (n : s.headNow.state ≠ .atTarget) :
    handle .headDone s = (s, []) := by
  simp [handle, prsHeadDone, hr, n]

theorem handle_headDone_step {r : Run} {st : Step} (hr : s.prs.run = some r) (hs : s.prs.step r = some st)
    (n : s.headNow.state = .atTarget) (ph : r.phase = .move) (d : r.deferred = false) (u : r.suspended = false) :
    handle .headDone s = (s, if st.target = s.headNow.issued then [.phaseEnd] else []) := by
  simp only [handle, prsHeadDone, hr, hs, n, ph, d, u]
  by_cases e : st.target = s.headNow.issued <;> simp [e]

theorem handle_consider_stopped (h : s.running = false) : handle .consider s = (s, []) :=
  handle_consider_off s (by rw [h]; rfl)

/-- With no run and no pass running the end of a move is the move's alone. -/
theorem cascade_headDone_stopped (run : s.prs.run = none) (stop : s.running = false) : cascade [.headDone] s = s := by
  rw [cascade_eq, run_one (handle_headDone_none run)]
  exact (run_leaf (handle_consider_stopped stop)).trans (run_nil ..)

/-- A head that does not move counts with its confirmed pair (R5). -/
theorem itemNow_head_still (a : s.stu.prunerAdm = none) (m : s.prs.head.state ≠ .moving) :
    s.itemNow .head = itemHead s.profile s.prs.head.confirmed := by
  simp [State.itemNow, State.headCounted, a, m]

theorem cascade_head_ends (run : s.prs.run = none) (stop : s.running = false) (a : s.stu.prunerAdm = none)
    (m : s.prs.head.state = .atTarget) (l : s.stu.load.head = itemHead s.profile s.prs.head.confirmed) :
    cascade [.reload .head, .headDone] s = s := by
  have same : s.itemNow .head = s.stu.load.get .head :=
    (itemNow_head_still a (by rw [m]; exact HeadState.noConfusion)).trans l.symm
  rw [cascade_eq, run_leaf (handle_reload_same s same)]
  exact (run_one (handle_headDone_none run)).trans ((run_leaf (handle_consider_stopped stop)).trans (run_nil ..))

/-- A rest move without its indication, the item at the pair bounded already: HEAD_TIMEOUT alone is left to do (R136). -/
theorem cascade_expired_rest {u : State} {d : Detail} (stop : u.running = false)
    (a : u.stu.prunerAdm = none) (m : u.prs.head.state = .unplaced)
    (l : u.stu.load.head = itemHead u.profile u.prs.head.confirmed) (f : (u.cdu.flags.get .headTimeout).isSet = false) :
    cascade [.reload .head, .occur .headTimeout d, .consider] u = u.raise .headTimeout d := by
  have same : u.itemNow .head = u.stu.load.get .head :=
    (itemNow_head_still a (by rw [m]; exact HeadState.noConfusion)).trans l.symm
  have raised : (u.raise .headTimeout d).running = false := by
    rw [State.running, State.inPass, State.raise_psc]; exact stop
  rw [cascade_eq, run_leaf (handle_reload_same u same), run_leaf (handle_occur (.inl f))]
  exact (run_leaf (handle_consider_stopped raised)).trans (run_nil ..)

end Sys2Proof.Machine

/-! PROOFS. The rest posture issued after a move without its indication: nothing that precedes the rest takes the drive away, nothing
that follows it issues another target; and the statement of the head's moves (R135 to R137, R142, R149, R151). -/

namespace Sys2Proof.Machine

variable {s : State}

/-! ### No other target -/

/-- No run in progress and no pass running, so that none begins; nothing simulated; STARTUP over. -/
structure NoTargets (s : State) : Prop where
  run : s.prs.run = none
  stopped : s.running = false
  physical : s.simMotion = false
  live : s.mode ≠ .startup

/-- The hand-offs that issue targets, begin a run or end the pass. -/
def Work.retargets : Work → Bool
  | .issue _ | .startRun _ | .startEnd | .prunerEnd _ => true
  | _ => false

/-- Without a run none comes but by its start (R141). -/
theorem handle_run_none {w : Work} (h : s.prs.run = none) (n : ∀ k, w ≠ .startRun k) : (handle w s).1.prs.run = none := by
  cases hc : w.changesRun with
  | false => rw [(handle_keeps w s).run hc]; exact h
  | true =>
    cases w
    case startRun k => exact absurd rfl (n k)
    case answer r a =>
      cases r
      · cases hc
      · cases a <;> simp [handle, prsAnswer, h]
    case permission k =>
      cases k
      case pruner => simp [handle, prsPermission, h]
      all_goals cases hc
    case prunerEnd d => cases d <;> rfl
    case enterPhase | phaseEnd | endRun | prunerStop | prunerResume =>
      simp [handle, prsEnterPhase, prsPhaseEnd, prsEndRun, prsStop, prsResume, h]
    all_goals cases hc

theorem NoTargets.handle {w : Work} (h : NoTargets s) (n : ∀ k, w ≠ .startRun k) : NoTargets (handle w s).1 :=
  have opens := handle_opensNothing w s
  ⟨handle_run_none h.run n, opens.running h.stopped, opens.simMotion h.physical, opens.startup h.live⟩

/-- But for a rest and the entry into LOCKOUT nothing hands on a hand-off that issues targets. -/
theorem NoTargets.works {w : Work} (h : NoTargets s) (k : w.retargets = false) (r : w ≠ .rest) (l : w ≠ .enterLockout) :
    ∀ v ∈ (Machine.handle w s).2, v.retargets = false := by
  intro v hv
  have o := origin_of_mem hv
  cases v
  case issue p =>
    cases w
    case rest => exact absurd rfl r
    case answer q a =>
      cases q <;> cases a <;> first | exact Bool.noConfusion o | skip
      simp [Machine.handle, prsAnswer, h.run] at hv
    case enterPhase => simp [Machine.handle, prsEnterPhase, h.run] at hv
    all_goals first | exact Bool.noConfusion k | exact Bool.noConfusion o
  case startRun n =>
    cases w
    case consider => rw [handle_consider_stopped h.stopped] at hv; cases hv
    all_goals exact Bool.noConfusion o
  case startEnd => exact absurd hv (startEnd_not_mem h.live)
  case prunerEnd d =>
    cases w
    case enterLockout => exact absurd rfl l
    all_goals exact Bool.noConfusion o
  all_goals rfl

theorem not_startRun {w : Work} (k : w.retargets = false) (n : Nat) : w ≠ .startRun n := by
  rintro rfl
  cases k

theorem not_issue {w : Work} (k : w.retargets = false) (p : Pair) : w ≠ .issue p := by
  rintro rfl
  cases k

/-- What a target issued to the physical head does, the head on its way elsewhere (R135, R136). -/
theorem handle_issue_moving {p : Pair} {h : Head} {sent : List Pair} (d : s.drives = true) (m : s.simMotion = false)
    (l : s.headLink = (h, sent)) (g : h.state = .moving) : ∃ due,
      (handle (.issue p) s).1.headLink = (h.sent p due, sent ++ [p]) ∧
      ∀ v ∈ (handle (.issue p) s).2, v.retargets = false := by
  obtain ⟨rfl, rfl⟩ := Prod.mk.inj l
  have now : s.headNow = s.prs.head := by rw [State.headNow, m]; rfl
  have unsettled : (s.prs.head.settled && s.prs.head.state != .moving) = false ∨ p ≠ s.prs.head.base := .inl (by simp [g])
  refine ⟨s.time.now + s.profile.headTime.toNat, ?_, ?_⟩
  all_goals simp only [handle, prsIssue, d, m, now, Head.issue_sent unsettled, Bool.not_true, Bool.false_eq_true, ↓reduceIte]
  · rw [setHead_physical (by rw [sendTargets_physical m]; exact m), sendTargets_physical m]
    rfl
  · refine List.forall_mem_cons.2 ⟨rfl, List.forall_mem_cons.2 ⟨rfl, ?_⟩⟩
    split <;> simp [Work.retargets]

theorem handle_rest_moving (m : s.simMotion = false) (g : s.prs.head.state = .moving) :
    handle .rest s = (s, if s.prs.head.issued = Pair.rest then [] else [.issue Pair.rest]) := by
  have now : s.headNow = s.prs.head := by rw [State.headNow, m]; rfl
  by_cases e : s.prs.head.issued = Pair.rest <;> simp [handle, prsRest, now, g, e]

/-! ### The rest that is due -/

/-- The hand-offs by which a rest comes: the rest itself, the pruner's FAULT, its cause (R137, R150, R195). -/
inductive Work.BringsRest : Work → Prop where
  | rest : BringsRest .rest
  | fault : BringsRest .prunerFault
  | major (o : MajorOrigin) : BringsRest (.major .pruner o)

/-- The hand-offs that can stand before the rest: none of them takes the drive away. -/
def Work.BeforeRest (w : Work) : Prop := w.inner true = true ∨ ∃ m, w = .occur .headTimeout (.minor m)

/-- A list in which a rest comes before anything that could take the drive away. -/
inductive RestComes : List Work → Prop where
  | here {w : Work} {ws : List Work} : w.BringsRest → RestComes (w :: ws)
  | later {w : Work} {ws : List Work} : w.BeforeRest → RestComes ws → RestComes (w :: ws)

theorem RestComes.behind {ws vs : List Work} (k : ∀ w ∈ ws, w.inner true = true) (h : RestComes vs) : RestComes (ws ++ vs) := by
  induction ws with
  | nil => exact h
  | cons w ws ih =>
    obtain ⟨head, rest⟩ := List.forall_mem_cons.1 k
    exact .later (.inl head) (ih rest)

theorem Work.BringsRest.ne_lockout {w : Work} (h : w.BringsRest) : w ≠ .enterLockout := by
  cases h <;> exact Work.noConfusion

theorem Work.BeforeRest.ne_lockout {w : Work} (h : w.BeforeRest) : w ≠ .enterLockout := by
  rintro rfl
  rcases h with h | ⟨m, h⟩ <;> cases h

theorem RestComes.ne_lockout {w : Work} {ws : List Work} (h : RestComes (w :: ws)) : w ≠ .enterLockout := by
  cases h with
  | here b => exact b.ne_lockout
  | later b _ => exact b.ne_lockout

/-- Nothing that precedes the rest takes the drive away, and the rest still comes. -/
theorem RestComes.step {w : Work} {ws : List Work} (h : RestComes (w :: ws)) (n : w ≠ .rest) (t : NoTargets s) :
    (handle w s).1.mode = s.mode ∧ RestComes ((handle w s).2 ++ ws) := by
  cases h with
  | here b =>
    cases b with
    | rest => exact absurd rfl n
    | major o => exact ⟨rfl, .here .fault⟩
    | fault =>
      refine ⟨rfl, ?_⟩
      simp only [handle, prsFault, t.run]
      split
      · exact .later (.inl rfl) (.here .rest)
      · exact .here .rest
  | later b rest =>
    rcases b with k | ⟨m, rfl⟩
    · exact ⟨inner_mode k, rest.behind (inner_works ⟨fun _ => t.live, fun e => nomatch e⟩ k)⟩
    · simp only [handle, cduOccur, Flag.minorCause]
      refine ⟨raise_mode .., ?_⟩
      split
      · exact .here (.major _)
      · exact rest

/-- The rest posture on its way to a head `h` that moves elsewhere, `sent` the messages before it: a rest is due; its target is
issued next; it has been sent, with no other target to come; it has been sent, and the part is in LOCKOUT. -/
inductive Resting (h : Head) (sent : List Pair) (s : State) : List Work → Prop where
  | due {ws : List Work} : NoTargets s → s.drives = true → s.headLink = (h, sent) → (∀ w ∈ ws, w.retargets = false) →
      RestComes ws → Resting h sent s ws
  | next {ws : List Work} : NoTargets s → s.drives = true → s.headLink = (h, sent) → (∀ w ∈ ws, w.retargets = false) →
      Resting h sent s (.issue Pair.rest :: ws)
  | done {ws : List Work} {due : Nat} : NoTargets s → s.headLink = (h.sent Pair.rest due, sent ++ [Pair.rest]) →
      (∀ w ∈ ws, w.retargets = false) → Resting h sent s ws
  | locked {ws : List Work} {due : Nat} : s.mode = .lockout → s.headLink = (h.sent Pair.rest due, sent ++ [Pair.rest]) →
      Work.startEnd ∉ ws → Resting h sent s ws

theorem drives_of_mode {t : State} (h : t.mode = s.mode) : t.drives = s.drives := by
  simp only [State.drives, h]

theorem Resting.step {h : Head} {sent : List Pair} {w : Work} {ws : List Work} (g : h.state = .moving) (i : h.issued ≠ Pair.rest)
    (r : Resting h sent s (w :: ws)) : Resting h sent (handle w s).1 ((handle w s).2 ++ ws) := by
  cases r with
  | due t d l quiet comes =>
    obtain ⟨k, rest⟩ := List.forall_mem_cons.1 quiet
    by_cases e : w = .rest
    · subst e
      obtain ⟨rfl, rfl⟩ := Prod.mk.inj l
      rw [handle_rest_moving t.physical g, if_neg i]
      exact .next t d rfl rest
    · obtain ⟨mode, comes'⟩ := comes.step e t
      exact .due (t.handle (not_startRun k)) ((drives_of_mode mode).trans d) ((handle_headLink (not_issue k)).trans l)
        (List.forall_mem_append.2 ⟨t.works k e comes.ne_lockout, rest⟩) comes'
  | next t d l rest =>
    obtain ⟨due, link, works⟩ := handle_issue_moving (p := Pair.rest) d t.physical l g
    exact .done (t.handle fun _ => Work.noConfusion) link (List.forall_mem_append.2 ⟨works, rest⟩)
  | done t l quiet =>
    obtain ⟨k, rest⟩ := List.forall_mem_cons.1 quiet
    have link := (handle_headLink (not_issue k)).trans l
    by_cases e : w = .enterLockout
    · subst e
      refine .locked rfl link fun m => ?_
      rcases List.mem_append.1 m with m | m
      · exact startEnd_not_mem t.live m
      · cases rest _ m
    · refine .done (t.handle (not_startRun k)) link (List.forall_mem_append.2 ⟨?_, rest⟩)
      by_cases e' : w = .rest
      · subst e'
        obtain ⟨head, -⟩ := Prod.mk.inj l
        rw [handle_rest_moving t.physical (by rw [head]; rfl), if_pos (by rw [head]; rfl)]
        exact fun v hv => nomatch hv
      · exact t.works k e' e
  | @locked _ due m l noStart =>
    have n : w ≠ .startEnd := fun e => noStart (e ▸ List.mem_cons_self ..)
    have frame := handle_lockoutFrame (s := s) m n
    refine .locked (due := due) ((LockoutFrame.mode_eq frame).trans m) ?_ fun hv => ?_
    · exact (Prod.ext (congrArg LockoutFrame.head frame) (congrArg LockoutFrame.sent frame)).trans l
    · rcases List.mem_append.1 hv with hv | hv
      · exact startEnd_not_mem (by rw [m]; exact Mode.noConfusion) hv
      · exact noStart (List.mem_cons_of_mem _ hv)

/-- Once the hand-offs are done the rest posture has been sent, once (R136, R137). -/
theorem Resting.run {h : Head} {sent : List Pair} {n : Nat} {ws : List Work} (g : h.state = .moving) (i : h.issued ≠ Pair.rest)
    (r : Resting h sent s ws) (o : (run n ws s).overrun = false) :
    ∃ due, (Machine.run n ws s).headLink = (h.sent Pair.rest due, sent ++ [Pair.rest]) := by
  rcases run_induct (fun _ _ _ => Resting.step g i) n ws s r with q | ⟨u, _, -, e⟩
  · cases q with
    | due _ _ _ _ comes => cases comes
    | done _ l _ => exact ⟨_, l⟩
    | locked _ l _ => exact ⟨_, l⟩
  · rw [e] at o; cases o

theorem Pair.le_max (p q : Pair) : p.height ≤ (p.max q).height ∧ q.height ≤ (p.max q).height :=
  ⟨le_max_left .., le_max_right ..⟩

theorem Head.expired_moving {h : Head} (i : h.issued ≠ Pair.rest) : h.expired.state = .moving := by
  simp [Head.expired, i]

/-- A move to another pair that ends without its indication, no run in progress and no pass running: the rest posture is issued
with one message, and neither pair of the move is forgotten. -/
theorem cascade_expired_away {d : Nat} (t : s.armTakes = true) (i : s.prs.head.issued ≠ Pair.rest) (run : s.prs.run = none)
    (stop : s.running = false) (o : (cascade s.expiryWorks ((s.advance d).withHead s.prs.head.expired)).overrun = false) :
    ∃ due, (cascade s.expiryWorks ((s.advance d).withHead s.prs.head.expired)).headLink =
      (s.prs.head.expired.sent Pair.rest due, s.out.headTxd ++ [Pair.rest]) := by
  obtain ⟨drives, physical⟩ := armTakes_iff.1 t
  have works : s.expiryWorks = [.reload .head, s.headTimeout, .rest, .consider] := by
    simp [State.expiryWorks, stepMoving_none run, i]
  refine Resting.run (Head.expired_moving i) i (.due ⟨run, stop, physical, drives_live drives⟩ drives rfl ?_ ?_) o
  · rw [works]; simp [Work.retargets, State.headTimeout]
  · rw [works]; exact .later (.inl rfl) (.later (.inr ⟨_, rfl⟩) (.here .rest))

/-- Settles O37: the rows by their conditions; the rest after a move without its indication by the hand-offs' invariant `Resting`. -/
theorem headMoves : Obligations.HeadMoves := by
  refine ⟨?inpos, fun s r hr => ⟨handle_headDone_away hr, fun st hs n ph d u => handle_headDone_step hr hs n ph d u⟩,
    fun s d hp ht hm hd => ⟨?expires, ?restless⟩, fun s d hp sim hd hm run stop => ?simulated⟩
  case inpos =>
    intro b s hp u
    refine ⟨exec_headInpos_level hp, ?_⟩
    rintro rfl p t n
    refine ⟨⟨_, exec_headInpos_ends hp p t n, (SameBase.trans (by constructor <;> rfl) (cascade_base _ _ rfl)).finish⟩,
      fun run stop a l => ?_⟩
    rw [exec_headInpos_ends hp p t n, cascade_head_ends (s := (s.pinHead true).withHead s.prs.head.complete) run stop a rfl l]
    rfl
  case expires =>
    refine ⟨_, exec_headDeadlineExpiry hp ht hm hd,
      (SameBase.trans (by constructor <;> rfl) (cascade_base _ _ (expiryWorks_plain s))).finish, fun i run stop o => ?_⟩
    obtain ⟨due, link⟩ := cascade_expired_away (d := d) ht i run stop o
    obtain ⟨head, sent⟩ := Prod.mk.inj link
    have moving := Head.expired_moving i
    have base : s.prs.head.expired.base = (s.prs.head.confirmed.max s.prs.head.issued).max s.prs.head.issued := if_pos moving
    rw [Head.sent, base] at head
    rw [State.finish_prs, head]
    obtain ⟨old, new⟩ := Pair.le_max s.prs.head.confirmed s.prs.head.issued
    obtain ⟨bound, -⟩ := Pair.le_max (s.prs.head.confirmed.max s.prs.head.issued) s.prs.head.issued
    exact ⟨rfl, rfl, by simp [moving], sent, old.trans bound, new.trans bound⟩
  case restless =>
    intro i run stop a l f
    have works : s.expiryWorks = [.reload .head, s.headTimeout, .consider] := by
      simp [State.expiryWorks, stepMoving_none run, i]
    have expired : s.prs.head.expired = ⟨.unplaced, Pair.rest, s.prs.head.confirmed.max Pair.rest, false, none⟩ := by
      simp [Head.expired, Head.bound, i]
    rw [exec_headDeadlineExpiry hp ht hm hd, works, State.headTimeout, expired, i,
      cascade_expired_rest (u := (s.advance d).withHead ⟨.unplaced, Pair.rest, s.prs.head.confirmed.max Pair.rest, false, none⟩)
        stop a rfl l f]
    rfl
  case simulated =>
    rw [exec_simHeadMoveDone hp sim hd hm,
      cascade_headDone_stopped (s := (s.advance d).withSimHead s.prs.simHead.complete) run stop]
    rfl

end Sys2Proof.Machine

/-! PROOFS. PRUNE_PROGRAM, PRUNE_ARM and PRUNE_HALT: their tests, the program, the rest posture that an UNPLACED head is sent to, the
halt that completes (R132 to R134, R137, R146). -/

namespace Sys2Proof.Machine

variable {s : State}

/-! ### The program (R132, R133) -/

/-- Only the last step up to the end marker carries it. -/
theorem upToEnd_marker (l : List Step) : ∀ st ∈ (upToEnd l).dropLast, st.last = false := by
  induction l with
  | nil => exact fun _ h => nomatch h
  | cons st rest ih =>
    cases e : st.last with
    | true => simp [upToEnd, e]
    | false =>
      intro x hx
      rw [upToEnd, if_neg (by simp [e])] at hx
      cases ends : upToEnd rest with
      | nil => simp [ends] at hx
      | cons a as =>
        rw [ends, List.dropLast_cons_of_ne_nil (List.cons_ne_nil a as), ← ends] at hx
        rcases List.mem_cons.1 hx with rfl | hx
        · exact e
        · exact ih x hx

theorem programOfPayload_marker {bytes : List Byte} {p : Program} (h : programOfPayload bytes = some p) :
    ∀ st ∈ p.steps.dropLast, st.last = false := by
  cases bytes with
  | nil => cases h
  | cons m bs =>
    simp only [programOfPayload, Option.bind_eq_bind, Option.bind_eq_some_iff, Option.some.injEq] at h
    obtain ⟨each, -, steps, -, rfl⟩ := h
    exact upToEnd_marker steps

section Program

variable {tag : Byte} {bytes : List Byte} (hp : s.powered = true) (hm : s.mode = .idle ∨ s.mode = .pass)
  (ht : s.takes ⟨0x48#8, tag, bytes⟩ = true) (hl : programLengthOk bytes = true)
include hp hm ht hl

theorem exec_pruneProgram_range (h : programOfPayload bytes = none) : exec (.pruneProgram tag bytes) s =
    .next ((takeFrame ⟨0x48#8, tag, bytes⟩ s).refusedWith ⟨0x48#8, tag, bytes⟩ .outOfRange) :=
  command_refused (kind := 0x48) hp ht (takeFrame_inIdlePass _ hm) hl (by simp [h])

theorem exec_pruneProgram_busy {p : Program} (h : programOfPayload bytes = some p) (r : s.prs.run ≠ none) :
    exec (.pruneProgram tag bytes) s =
      .next ((takeFrame ⟨0x48#8, tag, bytes⟩ s).refusedWith ⟨0x48#8, tag, bytes⟩ .busy) :=
  command_refused (kind := 0x48) hp ht (takeFrame_inIdlePass _ hm) hl (by simp [h, Option.isSome_iff_ne_none.2 r])

theorem exec_pruneProgram {p : Program} (h : programOfPayload bytes = some p) (r : s.prs.run = none) :
    exec (.pruneProgram tag bytes) s =
      .next (({ takeFrame ⟨0x48#8, tag, bytes⟩ s with prs := { s.prs with program := some p, armed := true } } : State).replied
        ⟨0x48#8, tag, bytes⟩ (.pruneProgram p.steps.length p.mode)) :=
  command_ok (kind := 0x48) (a := (_, [], fun _ => .pruneProgram p.steps.length p.mode)) hp ht (takeFrame_inIdlePass _ hm) hl
    (by simp [h, r])

end Program

/-! ### PRUNE_ARM (R134) -/

theorem takeFrame_headNow (f : Frame) : (takeFrame f s).headNow = s.headNow := by
  simp only [State.headNow, takeFrame_simMotion, takeFrame_prs]

/-- The state with the pruner armed or disarmed. -/
def State.withArmed (s : State) (b : Bool) : State := { s with prs := { s.prs with armed := b } }

/-- The works of PRUNE_ARM: the rest posture for a head that is UNPLACED. -/
def State.armWorks (s : State) : List Work := if s.headNow.state == .unplaced then [.issue Pair.rest] else []

/-- What the reply of PRUNE_ARM carries (R134, log 48). -/
def State.armReply (s : State) : OkResult := .pruneArm s.prs.armed s.headNow.state s.prs.fault

section Arm

variable {tag : Byte} (hp : s.powered = true) (hm : s.mode = .idle ∨ s.mode = .pass) (ht : s.takes ⟨0x49#8, tag, []⟩ = true)
include hp hm ht

theorem exec_pruneArm_noProgram (h : s.prs.program = none) : exec (.pruneArm tag []) s =
    .next ((takeFrame ⟨0x49#8, tag, []⟩ s).refusedWith ⟨0x49#8, tag, []⟩ .noProgram) :=
  command_refused (kind := 0x49) hp ht (takeFrame_inIdlePass _ hm) rfl (by simp [h])

theorem exec_pruneArm (h : s.prs.program ≠ none) : exec (.pruneArm tag []) s =
    .next ((cascade s.armWorks ((takeFrame ⟨0x49#8, tag, []⟩ s).withArmed true)).replied ⟨0x49#8, tag, []⟩
      (cascade s.armWorks ((takeFrame ⟨0x49#8, tag, []⟩ s).withArmed true)).armReply) := by
  have works : (takeFrame ⟨0x49#8, tag, []⟩ s).armWorks = s.armWorks := by
    rw [State.armWorks, State.armWorks, takeFrame_headNow]
  have held : ¬ (takeFrame ⟨0x49#8, tag, []⟩ s).prs.program.isNone = true := by simpa using h
  rw [← works]
  exact command_ok (kind := 0x49)
    (a := ((takeFrame ⟨0x49#8, tag, []⟩ s).withArmed true, (takeFrame ⟨0x49#8, tag, []⟩ s).armWorks, State.armReply)) hp ht
    (takeFrame_inIdlePass _ hm) rfl (if_neg held)

end Arm

theorem handle_issue_issued {p : Pair} (d : s.drives = true) (m : s.simMotion = false) :
    (handle (.issue p) s).1.prs.head.issued = p := by
  have now : s.headNow = s.prs.head := by rw [State.headNow, m]; rfl
  have issued (h : Head) (due : Nat) : (h.issue p due).1.issued = p := by
    simp only [Head.issue]
    split <;> split <;> rfl
  have physical (done : Bool) : (if done = true then s else s.sendTargets p).simMotion = false := by
    cases done
    · rw [if_neg Bool.false_ne_true, sendTargets_physical m]; exact m
    · exact m
  simp only [handle, prsIssue, d, now, Bool.not_true, Bool.false_eq_true, ↓reduceIte]
  rw [setHead_physical (physical _)]
  exact issued ..

/-- An armed pruner in IDLE, no run in progress nor any to come, and no target but the rest posture among the hand-offs that wait. -/
structure Arming (s : State) (ws : List Work) : Prop where
  mode : s.mode = .idle
  quiet : NoRun true s ws
  armed : s.prs.armed = true
  targets : ∀ p, Work.issue p ∈ ws → p = Pair.rest

theorem simMotion_idle (h : s.mode = .idle) : s.simMotion = false := by
  simp [State.simMotion, State.rehearsal, not_inPass_of_idle h]

theorem Arming.step {w : Work} {ws : List Work} (h : Arming s (w :: ws)) : Arming (handle w s).1 ((handle w s).2 ++ ws) where
  mode := (inner_mode (Work.noRun_inner h.quiet.head)).trans h.mode
  quiet := h.quiet.step
  armed := by
    have k := h.quiet.head
    refine ((handle_keeps w s).armed ?_).trans h.armed
    cases w <;> first | rfl | exact Bool.noConfusion k
  targets p i := by
    rcases List.mem_append.1 i with m | m
    · have o := origin_of_mem m
      have k := h.quiet.head
      cases w
      case rest =>
        rcases rest_works (s := s) with e | ⟨e, -⟩
        · rw [e] at m; cases m
        · rw [e, List.mem_singleton] at m
          exact Work.issue.inj m
      case answer r a =>
        cases r <;> cases a <;> first | exact Bool.noConfusion o | skip
        simp [handle, prsAnswer, h.quiet.run] at m
      all_goals first | exact Bool.noConfusion k | exact Bool.noConfusion o
    · exact h.targets p (List.mem_cons_of_mem _ m)

/-- The rest posture, once issued, stays the issued pair (R134, R137). -/
theorem Arming.issued {w : Work} {ws : List Work} (h : Arming s (w :: ws)) (i : s.prs.head.issued = Pair.rest) :
    (handle w s).1.prs.head.issued = Pair.rest := by
  by_cases e : ∃ p, w = .issue p
  · obtain ⟨p, rfl⟩ := e
    obtain rfl := h.targets p (List.mem_cons_self ..)
    exact handle_issue_issued (drives_iff.2 (.inl h.mode)) (simMotion_idle h.mode)
  · have same := handle_headLink (s := s) fun p ep => e ⟨p, ep⟩
    exact (congrArg (fun l : Head × List Pair => l.1.issued) same).trans i

/-- In IDLE without a run the rest posture is issued, and the pruner stays armed. -/
theorem cascade_issue_rest (m : s.mode = .idle) (run : s.prs.run = none) (armed : s.prs.armed = true) :
    (cascade [.issue Pair.rest] s).prs.armed = true ∧ (cascade [.issue Pair.rest] s).prs.head.issued = Pair.rest := by
  have stop : s.running = false := (not_inPass (not_inPass_of_idle m)).1
  have start : Arming s [.issue Pair.rest] :=
    ⟨m, ⟨⟨fun _ => by rw [m]; exact Mode.noConfusion, fun e => nomatch e⟩, run, by simp [Work.noRun, stop]⟩, armed, by simp⟩
  rw [cascade_cons]
  rcases run_induct (P := fun u ws => Arming u ws ∧ u.prs.head.issued = Pair.rest) (fun _ _ _ ⟨a, i⟩ => ⟨a.step, a.issued i⟩) _ _ _
    ⟨start.step, handle_issue_issued (drives_iff.2 (.inl m)) (simMotion_idle m)⟩ with ⟨a, i⟩ | ⟨u, _, ⟨a, i⟩, e⟩
  · exact ⟨a.armed, i⟩
  · rw [e]; exact ⟨a.armed, i⟩

/-! ### PRUNE_HALT (R146) -/

theorem replied_prs (f : Frame) (r : OkResult) : (s.replied f r).prs = s.prs := rfl

theorem replied_overrun (f : Frame) (r : OkResult) : (s.replied f r).overrun = s.overrun := rfl

theorem pruneHalt_none (h : s.prs.run = none) : s.pruneHalt = (s.withArmed false, [.skipAll, .rest]) := by
  simp [State.pruneHalt, State.withArmed, h]

theorem pruneHalt_again {r : Run} (hr : s.prs.run = some r) (h : r.halting = true) : s.pruneHalt = (s, []) := by
  simp [State.pruneHalt, hr, h]

theorem pruneHalt_marks {r : Run} (hr : s.prs.run = some r) (h : r.halting = false) (d : r.deferred = false)
    (run : s.running = true) : s.pruneHalt = (s.setRun (some { r with halting := true }), []) := by
  simp [State.pruneHalt, hr, h, d, run]

theorem pruneHalt_ends {r : Run} (hr : s.prs.run = some r) (h : r.halting = false) (d : r.deferred = true ∨ s.running = false) :
    s.pruneHalt = (s.setRun (some { r with halting := true }), [.endRun .skipped]) := by
  rcases d with d | d <;> simp [State.pruneHalt, hr, h, d]

/-- What the reply of PRUNE_HALT carries (R146). -/
def State.haltReply (s : State) : OkResult := .pruneHalt s.prs.armed (s.prs.run.map fun r => (r.blocking, r.halting))

theorem exec_pruneHalt {tag : Byte} {u : State} {ws : List Work} (hp : s.powered = true) (hm : s.mode = .idle ∨ s.mode = .pass)
    (ht : s.takes ⟨0x4A#8, tag, []⟩ = true) (e : (takeFrame ⟨0x4A#8, tag, []⟩ s).pruneHalt = (u, ws)) :
    exec (.pruneHalt tag []) s = .next ((cascade ws u).replied ⟨0x4A#8, tag, []⟩ (cascade ws u).haltReply) :=
  command_ok (kind := 0x4A) (a := (u, ws, State.haltReply)) hp ht (takeFrame_inIdlePass _ hm) rfl (by rw [e]; rfl)

/-- With no claim to skip and the head at rest a halt without a run has nothing more to do. -/
theorem cascade_halt_idle (t : s.ttr.trunks = []) (h : s.headNow.state = .atTarget) (c : s.headNow.confirmed = Pair.rest) :
    cascade [.skipAll, .rest] s = s := by
  have skip : handle .skipAll s = (s, []) := by simp [handle, prsSkipAll, t]
  have rest : handle .rest s = (s, []) := by simp [handle, prsRest, h, c]
  rw [cascade_eq, run_leaf skip]
  exact (run_leaf rest).trans (run_nil ..)

/-- The pruner is disarmed, or the completion of a halt still waits (R146). -/
def HaltDue (s : State) (ws : List Work) : Prop := s.prs.armed = false ∨ Work.haltDone ∈ ws

theorem HaltDue.step {w : Work} {ws : List Work} (h : HaltDue s (w :: ws)) : HaltDue (handle w s).1 ((handle w s).2 ++ ws) := by
  rcases h with h | h
  · exact .inl (handle_disarmed w h)
  · rcases List.mem_cons.1 h with rfl | h
    · exact .inl rfl
    · exact .inr (List.mem_append_right _ h)

/-- A HALTING run that ends disarms the pruner (R146). -/
theorem cascade_endRun_halting {r : Run} {o : Outcome} (hr : s.prs.run = some r) (h : r.halting = true)
    (ov : (cascade [.endRun o] s).overrun = false) : (cascade [.endRun o] s).prs.armed = false := by
  obtain ⟨u, -, -, -, e⟩ := handle_endRun o hr
  rw [cascade_eq, run_one e] at ov ⊢
  have due : HaltDue u (.withdraw .pruner :: .outcome r.trunk o :: s.afterRun r o ++ []) := .inr (by simp [State.afterRun, h])
  rcases run_induct (fun _ _ _ => HaltDue.step) _ _ _ due with q | ⟨v, _, -, ev⟩
  · exact q.resolve_right List.not_mem_nil
  · rw [ev] at ov; cases ov

/-- Settles O40: each command by its tests; the rest posture of PRUNE_ARM by the hand-offs' invariant `Arming`, the end of a halted
run by `HaltDue`. -/
theorem pruneCommands : Obligations.PruneCommands := by
  intro tag bytes s hp hm f u g v h w
  refine ⟨fun ht hl => ⟨exec_pruneProgram_range hp hm ht hl, fun p e => ⟨programOfPayload_marker e,
      exec_pruneProgram_busy hp hm ht hl e, exec_pruneProgram hp hm ht hl e⟩⟩,
    fun ht => ⟨exec_pruneArm_noProgram hp hm ht, fun k n => ?placed, fun k n idle run => ?unplaced⟩,
    fun ht => ⟨fun run t n c => ?disarms, fun r hr => ⟨fun k => ?again, fun k d run => ?marks, fun k d => ?ends⟩⟩⟩
  case placed =>
    have works : s.armWorks = [] := if_neg (by simpa using n)
    have now : (v.withArmed true).headNow = s.headNow := takeFrame_headNow g
    rw [exec_pruneArm hp hm ht k, works, cascade_nil, State.armReply, now]
    simp only [State.withArmed, takeFrame_prs]
    rfl
  case unplaced =>
    have now : s.headNow = s.prs.head := by rw [State.headNow, simMotion_idle idle]; rfl
    have works : s.armWorks = [.issue Pair.rest] := if_pos (by rw [now, n]; rfl)
    have row := exec_pruneArm hp hm ht k
    rw [works] at row
    obtain ⟨armed, issued⟩ := cascade_issue_rest (s := v.withArmed true) ((takeFrame_mode g s).trans idle)
      ((congrArg Prs.run (takeFrame_prs g s)).trans run) rfl
    exact ⟨_, row, (SameBase.trans (by constructor <;> rfl) (cascade_base _ _ rfl)).replied _ _, armed, issued⟩
  case disarms =>
    have prs : w.prs = s.prs := takeFrame_prs h s
    have none : w.prs.run = none := (congrArg Prs.run prs).trans run
    have now : (w.withArmed false).headNow = s.headNow := takeFrame_headNow h
    have trunks : (w.withArmed false).ttr.trunks = [] := (congrArg Ttr.trunks (takeFrame_ttr h s)).trans t
    rw [exec_pruneHalt hp hm ht (pruneHalt_none none), cascade_halt_idle trunks (by rw [now]; exact n) (by rw [now]; exact c)]
    simp only [State.haltReply, State.withArmed, prs, run, Option.map_none]
    rfl
  all_goals have held : w.prs.run = some r := (congrArg Prs.run (takeFrame_prs h s)).trans hr
  case again =>
    rw [exec_pruneHalt hp hm ht (pruneHalt_again held k), cascade_nil, State.haltReply, takeFrame_prs, hr, Option.map_some, k]
  case marks =>
    rw [exec_pruneHalt hp hm ht (pruneHalt_marks held k d ((takeFrame_running h s).trans run)), cascade_nil]
    simp only [State.haltReply, State.setRun, takeFrame_prs, Option.map_some]
    rfl
  case ends =>
    have ends := pruneHalt_ends held k (d.imp_right (takeFrame_running h s).trans)
    refine ⟨_, exec_pruneHalt hp hm ht ends, ?_, fun ov => ?_⟩
    · exact (SameBase.trans (by constructor <;> rfl) (cascade_base _ _ rfl)).replied _ _
    · rw [replied_overrun] at ov
      rw [replied_prs]
      exact cascade_endRun_halting rfl rfl ov

end Sys2Proof.Machine
